-- ==== Sys2Proof/Word.lean ====
section
/-! DEFINITION. The words of the wide-arithmetic unit (spec/00_scope.md R10, R12): a transfer word has 64 bits, a wide
integer or a quad 128, an opcode 8. Bit 0 is the least significant bit of every value. -/

namespace Sys2Proof

/-- R10, R12: a transfer word, 64 bits. -/
abbrev Word := BitVec 64

/-- R10, R13: a 128-bit pattern read as a wide integer; whether it is signed is the opcode's business. -/
abbrev Wide := BitVec 128

/-- R150: a 128-bit pattern read as an IEEE-754 binary128 value. -/
abbrev Quad := BitVec 128

/-- R152: a binary64 pattern. -/
abbrev Double := BitVec 64

/-- R152: a binary32 pattern. -/
abbrev Single := BitVec 32

/-- R61: the opcode byte of a request. -/
abbrev OpByte := BitVec 8

end Sys2Proof
end

