-- ==== Sys2Proof/Config.lean ====
section
/-! DEFINITION. What an implementation of the WAU fixes and the spec leaves open (R11 `DEPTH`, `LAT(op)`; R302, R313
`req_ready`), and the free values (R23, R32, R275: signals the hardware may drive with any pattern). Every constant here is
opaque: nothing in Lean can evaluate it, so a claim that mentions one holds whatever an implementation chooses. The
parameters of R11 that the spec gives a value are in Machine/Params.lean. -/

namespace Sys2Proof

/-- R11, D4: how far `DEPTH` lies above its least value 1. Log entry 4. -/
opaque Config.depthAboveOne : Nat

/-- R11, R29, D4: `DEPTH`, the most requests accepted and not yet answered; open, at least 1. -/
def Config.depth : Nat := Config.depthAboveOne + 1

/-- R311, D29: how far `LAT(op)` lies above its least value 1, for a defined opcode. Log entry 5. -/
opaque Config.latAboveOne : OpByte → Nat

/-- R311: how far `LAT(reserved)`, the one constant of all reserved opcodes, lies above 1. Log entry 5. -/
opaque Config.latReservedAboveOne : Nat

/-- R29, R313: whether the WAU raises `req_ready` in a cycle in which the queue has room. The choice may differ from cycle
to cycle and with the opcodes in flight, never with operand values. Log entry 7. -/
opaque Config.readyChoice : Nat → List OpByte → Bool

/-- R302: the number of cycles after reset within which `req_ready` has become 1; finite, otherwise open. Log entry 8. -/
opaque Config.readyDelay : Nat → Nat

/-- R32, U14: `rsp_status` in a cycle with `rsp_valid = 0`. Log entry 10. -/
opaque Config.idleStatus : Nat → BitVec 1

/-- R32, U14: `rsp_cause` in a cycle with `rsp_valid = 0`. Log entry 10. -/
opaque Config.idleCause : Nat → BitVec 3

/-- R32, U14: `rsp_r_lo` in a cycle with `rsp_valid = 0`. Log entry 10. -/
opaque Config.idleLo : Nat → Word

/-- R32, U14: `rsp_r_hi` in a cycle with `rsp_valid = 0`. Log entry 10. -/
opaque Config.idleHi : Nat → Word

/-- R275, U11: `rsp_r_lo` of an ABORT response, "any pattern". Log entry 11. -/
opaque Config.abortLo : Nat → Word

/-- R275, U11: `rsp_r_hi` of an ABORT response, "any pattern". Log entry 11. -/
opaque Config.abortHi : Nat → Word

end Sys2Proof
end

