-- ==== Sys2Proof/Syntax.lean ====
section
/-! DEFINITION. The operations of the WAU (R4, R64), one constructor per row of the opcode map with the operands its form
names (R65), and the raw request of R60. An operand has exactly the width its form gives it, so an `Instr` holds no bit
that its operation does not read (R66) and there is no ill-formed `Instr`. -/

namespace Sys2Proof

/-- R60: a request, an opcode byte and four operand words. -/
structure Request where
  op : OpByte
  w0 : Word
  w1 : Word
  w2 : Word
  w3 : Word
  deriving DecidableEq, Repr

/-- The 30 operations of R64, in the order of its table. `a` and `b` are the operands A and B of forms WW, QQ, WC and Q,
`c` the shift count, `f` the single of form S and `d` the double of form D. -/
inductive Instr where
  | mul (a b : Wide)
  | divs (a b : Wide)
  | divu (a b : Wide)
  | mods (a b : Wide)
  | modu (a b : Wide)
  | lshl (a : Wide) (c : Word)
  | lshr (a : Wide) (c : Word)
  | ashl (a : Wide) (c : Word)
  | ashr (a : Wide) (c : Word)
  | qadd (a b : Quad)
  | qsub (a b : Quad)
  | qmul (a b : Quad)
  | qdiv (a b : Quad)
  | qeq (a b : Quad)
  | qne (a b : Quad)
  | qge (a b : Quad)
  | qgt (a b : Quad)
  | qle (a b : Quad)
  | qlt (a b : Quad)
  | qcmp (a b : Quad)
  | qunord (a b : Quad)
  | xsq (f : Single)
  | xdq (d : Double)
  | tqd (a : Quad)
  | tqs (a : Quad)
  | qtoi32 (a : Quad)
  | qtoi64 (a : Quad)
  | qtou32 (a : Quad)
  | qtou64 (a : Quad)
  | brk
  deriving DecidableEq, Repr

end Sys2Proof
end

