-- ==== Sys2Proof/WellFormed.lean ====
section
/-! DEFINITION. Well-formed requests: the opcode is not reserved (R69) and every operand bit the opcode ignores is 0, as in
the raw form that R73 gives each mnemonic. A request that fails the first check is answered with ILLEGAL_OP; one that fails
only the second runs as if the ignored bits were 0 (R66). Both checks are written from the ranges the prose of R66 and R69
names and not from the decoder, so that the two can be held against each other. -/

namespace Sys2Proof

/-- R69: the reserved opcode values, by range. -/
def Request.opReserved (r : Request) : Bool :=
  (0x09 ≤ r.op.toNat && r.op.toNat ≤ 0x0F) || (0x14 ≤ r.op.toNat && r.op.toNat ≤ 0x1F) ||
  (0x28 ≤ r.op.toNat && r.op.toNat ≤ 0x2F) || (0x38 ≤ r.op.toNat && r.op.toNat ≤ 0x3E) || 0x40 ≤ r.op.toNat

/-- R66: which of the words 1, 2 and 3 an opcode does not read, and whether it reads only the low half of word 0. -/
def Request.ignoresW1 (r : Request) : Bool := r.op = 0x30#8 || r.op = 0x31#8 || r.op = 0x3F#8

def Request.ignoresW2 (r : Request) : Bool := 0x30 ≤ r.op.toNat && r.op.toNat ≤ 0x3F

def Request.ignoresW3 (r : Request) : Bool := (0x05 ≤ r.op.toNat && r.op.toNat ≤ 0x08) || r.ignoresW2

def Request.ignoresW0High (r : Request) : Bool := r.op = 0x30#8 || r.op = 0x3F#8

def Request.ignoresW0Low (r : Request) : Bool := r.op = 0x3F#8

/-- R73: every ignored operand bit is 0. -/
def Request.ignoredBitsZero (r : Request) : Bool :=
  (!r.ignoresW1 || r.w1 = 0) && (!r.ignoresW2 || r.w2 = 0) && (!r.ignoresW3 || r.w3 = 0) &&
  (!r.ignoresW0High || r.w0.extractLsb' 32 32 = 0) && (!r.ignoresW0Low || r.w0.extractLsb' 0 32 = 0)

/-- A defined opcode with all ignored bits 0: the requests that are some operation's raw form of R73. -/
def Request.wellFormed (r : Request) : Bool := !r.opReserved && r.ignoredBitsZero

end Sys2Proof
end

