-- ==== Sys2Proof/Decode.lean ====
section
/-! DEFINITION. The request encoding (R60 to R73): word pairs, the request as one bit vector, operand assembly, the opcode
map, the decoder (total; a reserved opcode is rejected by name) and the encoder. -/

namespace Sys2Proof

/-! ### Word pairs (R12, R42) -/

/-- R12: `X = {hi, lo}`. -/
def pair (hi lo : Word) : Wide := hi ++ lo

/-- R12: `lo = X[63:0]`. -/
def loWord (x : Wide) : Word := x.extractLsb' 0 64

/-- R12: `hi = X[127:64]`. -/
def hiWord (x : Wide) : Word := x.extractLsb' 64 64

/-! ### The request as one bit vector (R60) -/

/-- R60: `REQ[263:0] = {w3, w2, w1, w0, op}`. -/
def Request.toVector (r : Request) : BitVec 264 := r.w3 ++ r.w2 ++ r.w1 ++ r.w0 ++ r.op

/-- R60: the five fields of `REQ[263:0]`. -/
def Request.ofVector (v : BitVec 264) : Request where
  op := v.extractLsb' 0 8
  w0 := v.extractLsb' 8 64
  w1 := v.extractLsb' 72 64
  w2 := v.extractLsb' 136 64
  w3 := v.extractLsb' 200 64

/-! ### Operand assembly (R65) -/

/-- R65: `A = {w[1], w[0]}`. -/
def Request.operandA (r : Request) : Wide := pair r.w1 r.w0

/-- R65: `B = {w[3], w[2]}`. -/
def Request.operandB (r : Request) : Wide := pair r.w3 r.w2

/-- R65: the count of form WC, the whole of word 2. -/
def Request.count (r : Request) : Word := r.w2

/-- R65: the double of form D. -/
def Request.double (r : Request) : Double := r.w0

/-- R44, R65: the single of form S, `w[0][31:0]`. -/
def Request.single (r : Request) : Single := r.w0.extractLsb' 0 32

/-! ### Decoder (R64, R69) -/

/-- Why a request has no operation: its opcode byte is reserved (R69). -/
inductive DecodeError where
  | reservedOpcode (op : OpByte)
  deriving DecidableEq, Repr

/-- R64, R65, R69: the operation of a request, all eight opcode bits compared. -/
def decode (r : Request) : Except DecodeError Instr :=
  match r.op with
  | 0x00#8 => .ok (.mul r.operandA r.operandB)
  | 0x01#8 => .ok (.divs r.operandA r.operandB)
  | 0x02#8 => .ok (.divu r.operandA r.operandB)
  | 0x03#8 => .ok (.mods r.operandA r.operandB)
  | 0x04#8 => .ok (.modu r.operandA r.operandB)
  | 0x05#8 => .ok (.lshl r.operandA r.count)
  | 0x06#8 => .ok (.lshr r.operandA r.count)
  | 0x07#8 => .ok (.ashl r.operandA r.count)
  | 0x08#8 => .ok (.ashr r.operandA r.count)
  | 0x10#8 => .ok (.qadd r.operandA r.operandB)
  | 0x11#8 => .ok (.qsub r.operandA r.operandB)
  | 0x12#8 => .ok (.qmul r.operandA r.operandB)
  | 0x13#8 => .ok (.qdiv r.operandA r.operandB)
  | 0x20#8 => .ok (.qeq r.operandA r.operandB)
  | 0x21#8 => .ok (.qne r.operandA r.operandB)
  | 0x22#8 => .ok (.qge r.operandA r.operandB)
  | 0x23#8 => .ok (.qgt r.operandA r.operandB)
  | 0x24#8 => .ok (.qle r.operandA r.operandB)
  | 0x25#8 => .ok (.qlt r.operandA r.operandB)
  | 0x26#8 => .ok (.qcmp r.operandA r.operandB)
  | 0x27#8 => .ok (.qunord r.operandA r.operandB)
  | 0x30#8 => .ok (.xsq r.single)
  | 0x31#8 => .ok (.xdq r.double)
  | 0x32#8 => .ok (.tqd r.operandA)
  | 0x33#8 => .ok (.tqs r.operandA)
  | 0x34#8 => .ok (.qtoi32 r.operandA)
  | 0x35#8 => .ok (.qtoi64 r.operandA)
  | 0x36#8 => .ok (.qtou32 r.operandA)
  | 0x37#8 => .ok (.qtou64 r.operandA)
  | 0x3F#8 => .ok .brk
  | op => .error (.reservedOpcode op)

/-- The decoder on the bit vector of R60. -/
def decodeVector (v : BitVec 264) : Except DecodeError Instr := decode (Request.ofVector v)

/-! ### Encoder (R64, R73) -/

/-- R73: `REQ op, A[63:0], A[127:64], B[63:0], B[127:64]`. -/
def rawTwo (op : OpByte) (a b : Wide) : Request := ⟨op, loWord a, hiWord a, loWord b, hiWord b⟩

/-- R73: `REQ op, A[63:0], A[127:64], c, 0`. -/
def rawCount (op : OpByte) (a : Wide) (c : Word) : Request := ⟨op, loWord a, hiWord a, c, 0⟩

/-- R73: `REQ op, A[63:0], A[127:64], 0, 0`. -/
def rawOne (op : OpByte) (a : Wide) : Request := ⟨op, loWord a, hiWord a, 0, 0⟩

/-- R73: `REQ op, w, 0, 0, 0`. -/
def rawWord (op : OpByte) (w : Word) : Request := ⟨op, w, 0, 0, 0⟩

/-- R64, R73: the raw form of an operation, every ignored bit 0. -/
def encode : Instr → Request
  | .mul a b => rawTwo 0x00 a b
  | .divs a b => rawTwo 0x01 a b
  | .divu a b => rawTwo 0x02 a b
  | .mods a b => rawTwo 0x03 a b
  | .modu a b => rawTwo 0x04 a b
  | .lshl a c => rawCount 0x05 a c
  | .lshr a c => rawCount 0x06 a c
  | .ashl a c => rawCount 0x07 a c
  | .ashr a c => rawCount 0x08 a c
  | .qadd a b => rawTwo 0x10 a b
  | .qsub a b => rawTwo 0x11 a b
  | .qmul a b => rawTwo 0x12 a b
  | .qdiv a b => rawTwo 0x13 a b
  | .qeq a b => rawTwo 0x20 a b
  | .qne a b => rawTwo 0x21 a b
  | .qge a b => rawTwo 0x22 a b
  | .qgt a b => rawTwo 0x23 a b
  | .qle a b => rawTwo 0x24 a b
  | .qlt a b => rawTwo 0x25 a b
  | .qcmp a b => rawTwo 0x26 a b
  | .qunord a b => rawTwo 0x27 a b
  | .xsq f => rawWord 0x30 (f.zeroExtend 64)
  | .xdq d => rawWord 0x31 d
  | .tqd a => rawOne 0x32 a
  | .tqs a => rawOne 0x33 a
  | .qtoi32 a => rawOne 0x34 a
  | .qtoi64 a => rawOne 0x35 a
  | .qtou32 a => rawOne 0x36 a
  | .qtou64 a => rawOne 0x37 a
  | .brk => rawWord 0x3F 0

/-! ### The opcode map as data (R64, R65, R68) -/

/-- R65: the operand forms. -/
inductive OperandForm where
  | ww | wc | qq | q | d | s | none
  deriving DecidableEq, Repr

/-- R68: the result forms. -/
inductive ResultForm where
  | wide | quad | s32 | u32 | i64 | b64 | b32 | zero
  deriving DecidableEq, Repr

/-- A row of the table of R64. -/
structure OpRow where
  code : OpByte
  mnemonic : String
  operands : OperandForm
  result : ResultForm
  deriving DecidableEq, Repr

/-- R64, group 0: the wide-integer operations. -/
def opRowsInteger : List OpRow :=
  [⟨0x00, "MUL", .ww, .wide⟩, ⟨0x01, "DIVS", .ww, .wide⟩, ⟨0x02, "DIVU", .ww, .wide⟩, ⟨0x03, "MODS", .ww, .wide⟩,
   ⟨0x04, "MODU", .ww, .wide⟩, ⟨0x05, "LSHL", .wc, .wide⟩, ⟨0x06, "LSHR", .wc, .wide⟩, ⟨0x07, "ASHL", .wc, .wide⟩,
   ⟨0x08, "ASHR", .wc, .wide⟩]

/-- R64, groups 1 and 2: the quad arithmetic and comparison operations. -/
def opRowsQuad : List OpRow :=
  [⟨0x10, "QADD", .qq, .quad⟩, ⟨0x11, "QSUB", .qq, .quad⟩, ⟨0x12, "QMUL", .qq, .quad⟩, ⟨0x13, "QDIV", .qq, .quad⟩,
   ⟨0x20, "QEQ", .qq, .s32⟩, ⟨0x21, "QNE", .qq, .s32⟩, ⟨0x22, "QGE", .qq, .s32⟩, ⟨0x23, "QGT", .qq, .s32⟩,
   ⟨0x24, "QLE", .qq, .s32⟩, ⟨0x25, "QLT", .qq, .s32⟩, ⟨0x26, "QCMP", .qq, .s32⟩, ⟨0x27, "QUNORD", .qq, .s32⟩]

/-- R64, group 3: the conversions and the diagnostic no-op. -/
def opRowsConvert : List OpRow :=
  [⟨0x30, "XSQ", .s, .quad⟩, ⟨0x31, "XDQ", .d, .quad⟩, ⟨0x32, "TQD", .q, .b64⟩, ⟨0x33, "TQS", .q, .b32⟩,
   ⟨0x34, "QTOI32", .q, .s32⟩, ⟨0x35, "QTOI64", .q, .i64⟩, ⟨0x36, "QTOU32", .q, .u32⟩, ⟨0x37, "QTOU64", .q, .i64⟩,
   ⟨0x3F, "BRK", .none, .zero⟩]

/-- R64: the opcode map. -/
def opRows : List OpRow := opRowsInteger ++ opRowsQuad ++ opRowsConvert

/-- R64: the row of an opcode byte, none for a reserved one. -/
def opRow? (op : OpByte) : Option OpRow := opRows.find? (fun row => row.code = op)

/-! ### The host's reading of a table word -/

/-- The request whose bits, numbered as R60 numbers `REQ[263:0]` (spec/opcode_table.json numbers them the same way), are the low
`nbits` bits of `w`, all bits above them 0. -/
def tableRequest (nbits w : Nat) : Request where
  op := BitVec.ofNat 8 (w % 2 ^ nbits)
  w0 := BitVec.ofNat 64 (w % 2 ^ nbits / 2 ^ 8)
  w1 := BitVec.ofNat 64 (w % 2 ^ nbits / 2 ^ 72)
  w2 := BitVec.ofNat 64 (w % 2 ^ nbits / 2 ^ 136)
  w3 := BitVec.ofNat 64 (w % 2 ^ nbits / 2 ^ 200)

/-- The instruction the decoder reads from that request, none where it rejects it. -/
def decodeTableWord (nbits w : Nat) : Option Instr := (decode (tableRequest nbits w)).toOption

end Sys2Proof
end

