-- ==== Sys2Proof/Machine/State.lean ====
section
/-! DEFINITION. The state of the WAU (R20 to R32): the signals of its two ports and the queue of requests in flight. It has
no registers, no program counter, no flags and no memory (R24 to R28, R40). -/

namespace Sys2Proof.Machine

/-- R271: the four causes of an abort. Codes 0 and 5 to 7 name no cause, so there is no constructor for them (U13). -/
inductive Cause where
  | divideByZero
  | invalidShiftAmount
  | conversionOutOfRange
  | illegalOp
  deriving DecidableEq, Repr

/-- R15, R270: the outcome of one operation, `Ok(r_lo, r_hi)` or `Abort(cause)`. An abort has no result words (R275). -/
inductive Result where
  | ok (lo hi : Word)
  | abort (cause : Cause)
  deriving DecidableEq, Repr

/-- R21, R23: the signals the host drives in one cycle. -/
structure Inputs where
  rst : Bool
  reqValid : Bool
  req : Request
  rspReady : Bool
  deriving DecidableEq, Repr

/-- R29: a request in flight, and how many further cycles its latency (R311) keeps its response back. -/
structure Entry where
  req : Request
  wait : Nat
  deriving DecidableEq, Repr

/-- The state during one clock cycle: what the host drives, what the WAU drives, and the queue. -/
structure State where
  /-- R21, R23: what the host drives in this cycle. -/
  ins : Inputs
  /-- The model's own: what the host drives in the cycles to come (log entries 1 and 2). -/
  script : List Inputs
  /-- R21, R29: `req_ready`. -/
  reqReady : Bool
  /-- R23: `rsp_valid`, as registered; in a cycle with `rst = 1` it counts as 0 (R300, log entries 20 and 30). -/
  rspValid : Bool
  /-- R23: `rsp_status`, 0 = OK, 1 = ABORT. -/
  rspStatus : BitVec 1
  /-- R23: `rsp_cause`. -/
  rspCause : BitVec 3
  /-- R23: `rsp_r_lo`. -/
  rspRLo : Word
  /-- R23: `rsp_r_hi`. -/
  rspRHi : Word
  /-- R29: the requests accepted and not yet answered, oldest first; the head stays until its response is delivered. -/
  inflight : List Entry
  /-- R302: while `req_ready` has not been 1 since reset, how many more cycles it may stay 0 (log entry 8). -/
  readyBy : Option Nat
  /-- The model's own: clock edges so far; the free values of Config are applied to it (log entry 12). -/
  cycle : Nat
  deriving DecidableEq, Repr

/-- The WAU never stops with a fault: for every opcode byte and all operand words the outcome is defined (R15, R69), and an
abort is a response and not a stop (R275). Log entry 18. -/
inductive Fault where
  deriving DecidableEq, Repr

/-- The machine refuses no operation of the opcode table. -/
inductive Refusal where
  /-- Raised by an arm of `exec` whose instruction has no meaning yet; no arm is in that case. Safe: nothing is claimed of it. -/
  | notModelled (mnemonic : String)
  deriving DecidableEq, Repr

/-- A host that drives no reset and no request and takes every response; what the host drives once the script has run out.
Log entry 2. -/
def Inputs.idle : Inputs := ⟨false, false, ⟨0, 0, 0, 0, 0⟩, true⟩

/-- R32, R302: the first cycle with `rst = 0` after reset. The queue is empty and `rsp_valid` is 0; the values of `req_ready`
and of the other response signals, which R302 leaves open, are log entry 9's. -/
def State.reset : State where
  ins := Inputs.idle
  script := []
  reqReady := false
  rspValid := false
  rspStatus := 0
  rspCause := 0
  rspRLo := 0
  rspRHi := 0
  inflight := []
  readyBy := some (Config.readyDelay 0)
  cycle := 0

end Sys2Proof.Machine
end

