-- ==== Sys2Proof/Machine/Params.lean ====
section
/-! DEFINITION. The parameters of R11 to which the spec gives a value: the comparison sentinels (R222), the default NaN (R161)
and the policies `POL_DIV0`, `POL_SHIFT`, `POL_CONV`. `POL_MINDIV` is the
`wrap128` of DIVS and MODS (R117, Machine/WideDiv.lean). Log entries 13, 14 and 15. -/

namespace Sys2Proof.Machine

/-- R222: `S_EQ`. -/
def sentinelEq : Int := 1

/-- R222: `S_NE`. -/
def sentinelNe : Int := 1

/-- R222: `S_GE`. -/
def sentinelGe : Int := -1

/-- R222: `S_GT`. -/
def sentinelGt : Int := -1

/-- R222: `S_LE`. -/
def sentinelLe : Int := 1

/-- R222: `S_LT`. -/
def sentinelLt : Int := 1

/-- R222: `S_CMP`. -/
def sentinelCmp : Int := 1

/-- R161: the NaN of an invalid operation. -/
def qnanDefault : Quad := pair 0x7FFF800000000000 0

/-- R11 `POL_DIV0`, R110: the outcome of an integer division by zero. -/
def polDivByZero : Result := .abort .divideByZero

/-- R11 `POL_SHIFT`, R130: the outcome of a shift count of 128 or more. -/
def polShift : Result := .abort .invalidShiftAmount

/-- R11 `POL_CONV`, R237: the outcome of a quad-to-integer conversion that has no result. -/
def polConv : Result := .abort .conversionOutOfRange

end Sys2Proof.Machine
end

