-- ==== Sys2Proof/Machine/Operands.lean ====
section
/-! DEFINITION. How patterns are read as numbers (R13) and how each result form is placed on the two result words (R14, R68).
How operand words assemble into operands (R65) is in Decode.lean, since the decoder does it. -/

namespace Sys2Proof.Machine

/-! ### Interpretations of a pattern (R13) -/

/-- R13: `U128(X)`. -/
def u128 (x : Wide) : Nat := x.toNat

/-- R13: `S128(X) = X - 2^128 if X[127] = 1 else X`. -/
def s128 (x : Wide) : Int := if x.msb then (x.toNat : Int) - 2 ^ 128 else x.toNat

/-- R13: `wrap128(n)`, the non-negative residue. -/
def wrap128 (n : Int) : Wide := BitVec.ofInt 128 n

/-- R13: `U64(w)`. -/
def u64 (w : Word) : Nat := w.toNat

/-! ### Result forms (R68) -/

/-- R68, forms wide and quad; R14 `result128`. -/
def resultWide (x : Wide) : Result := .ok (loWord x) (hiWord x)

/-- R68, form s32; R14 `result_s32`: the low 32 bits of n, sign-extended. -/
def resultS32 (n : Int) : Result := .ok ((BitVec.ofInt 32 n).signExtend 64) 0

/-- R68, form u32; R14 `result_u32`. -/
def resultU32 (n : Int) : Result := .ok ((BitVec.ofInt 32 n).zeroExtend 64) 0

/-- R68, form i64; R14 `result_64`. -/
def resultI64 (n : Int) : Result := .ok (BitVec.ofInt 64 n) 0

/-- R68, form b64. -/
def resultB64 (d : Double) : Result := .ok d 0

/-- R68, form b32. -/
def resultB32 (f : Single) : Result := .ok (f.zeroExtend 64) 0

/-- R68, form zero. -/
def resultZero : Result := .ok 0 0

end Sys2Proof.Machine
end

