-- ==== Sys2Proof/Machine/Flags.lean ====
section
/-! DEFINITION. The status of a response. The WAU has no flags (R26, R166); what it reports of an operation beside the result
words is `rsp_status` and `rsp_cause` (R23, R271). -/

namespace Sys2Proof.Machine

/-- R271: the code of a cause. -/
def Cause.code : Cause → BitVec 3
  | .divideByZero => 1
  | .invalidShiftAmount => 2
  | .conversionOutOfRange => 3
  | .illegalOp => 4

/-- R271: the cause a code names; 0 and the reserved codes 5 to 7 name none. -/
def causeOfCode (c : BitVec 3) : Option Cause :=
  match c with
  | 1#3 => some .divideByZero
  | 2#3 => some .invalidShiftAmount
  | 3#3 => some .conversionOutOfRange
  | 4#3 => some .illegalOp
  | _ => none

/-- R23: `rsp_status` of a result. -/
def Result.status : Result → BitVec 1
  | .ok _ _ => 0
  | .abort _ => 1

/-- R23: `rsp_cause` of a result, 0 on OK. -/
def Result.causeCode : Result → BitVec 3
  | .ok _ _ => 0
  | .abort c => c.code

/-- R23, R275: what the host can read from response signals: on OK the result words, on ABORT the cause and no words. -/
def readResponse (status : BitVec 1) (cause : BitVec 3) (lo hi : Word) : Option Result :=
  if status = 0 then (if cause = 0 then some (.ok lo hi) else none) else (causeOfCode cause).map .abort

/-- R62: `RSP[131:0] = {r_hi, r_lo, cause, status}`. -/
def State.rspVector (s : State) : BitVec 132 := s.rspRHi ++ s.rspRLo ++ s.rspCause ++ s.rspStatus

/-- R23, R300: `rsp_valid` as the host sees it. -/
def State.rspValidOut (s : State) : Bool := s.rspValid && !s.ins.rst

/-- R21, R300: `req_ready` as the host sees it; in a reset cycle it is treated as 0 whatever the WAU drives. -/
def State.reqReadyOut (s : State) : Bool := s.reqReady && !s.ins.rst

/-- R23: the outcome that the response port presents. -/
def State.presented (s : State) : Option Result :=
  if s.rspValid then readResponse s.rspStatus s.rspCause s.rspRLo s.rspRHi else none

end Sys2Proof.Machine
end

