-- ==== Sys2Proof/Machine/Ops.lean ====
section
/-! DEFINITION. The named operations over the state: presenting a response, taking an abort, taking a reset, and the parts of
a clock edge (delivery, ageing, acceptance, the signals of the next cycle). There is no return from an abort (R280), so no
operation for it. -/

namespace Sys2Proof.Machine

/-! ### Responses (R23, R62, R275) -/

/-- R23: present an OK response. -/
def State.presentOk (lo hi : Word) (s : State) : State :=
  { s with rspValid := true, rspStatus := 0, rspCause := 0, rspRLo := lo, rspRHi := hi }

/-- R270, R275: TAKING AN ABORT, the machine's one kind of exception. The response gets status 1 and the cause code; the
result words are free values (log entry 11). Nothing is saved, no mode changes, nothing is vectored, and the queue goes on. -/
def State.takeAbort (c : Cause) (s : State) : State :=
  { s with rspValid := true, rspStatus := 1, rspCause := c.code,
           rspRLo := Config.abortLo s.cycle, rspRHi := Config.abortHi s.cycle }

/-- R31: present the outcome of an operation. -/
def State.present (r : Result) (s : State) : State :=
  match r with
  | .ok lo hi => s.presentOk lo hi
  | .abort c => s.takeAbort c

/-- The end of every meaning: the machine goes on with the outcome presented. -/
def answer (r : Result) (s : State) : Host.Outcome State Fault Refusal := .next (s.present r)

/-! ### Time (R311) -/

/-- R311: `LAT` of an opcode byte, at least 1; all reserved opcodes share the constant `LAT(reserved)`. -/
def lat (op : OpByte) : Nat :=
  (if (opRow? op).isSome then Config.latAboveOne op else Config.latReservedAboveOne) + 1

/-! ### What happens on the ports in a cycle (R21, R23, R300) -/

/-- R23, R300: a response is delivered in this cycle. -/
def State.delivering (s : State) : Bool := s.rspValid && s.ins.rspReady && !s.ins.rst

/-- R21, R300: a request is accepted in this cycle. -/
def State.accepting (s : State) : Bool := s.ins.reqValid && s.reqReady && !s.ins.rst

/-! ### The parts of a clock edge -/

/-- R29: the entry of a delivered response leaves the queue. -/
def State.retire (s : State) : State :=
  if s.delivering then { s with inflight := s.inflight.tail, rspValid := false } else s

/-- R311, log entry 6: one more cycle has passed for every request in flight. -/
def State.age (s : State) : State :=
  { s with inflight := s.inflight.map fun e => { e with wait := e.wait - 1 } }

/-- R29, R46: an accepted request enters the queue whole, at its end. -/
def State.enqueue (s : State) : State :=
  if s.accepting then { s with inflight := s.inflight ++ [⟨s.ins.req, lat s.ins.req.op - 1⟩] } else s

/-- R30, R32: a waiting response is held; with none waiting the response signals are free (log entry 10). DESIGN CHOICE (log entry
30): it is held also into a cycle with `rst = 1`, where the host sees `rsp_valid = 0` and any values may stand. -/
def State.floatResponse (s : State) : State :=
  if s.rspValid then s
  else { s with rspStatus := Config.idleStatus s.cycle, rspCause := Config.idleCause s.cycle,
                rspRLo := Config.idleLo s.cycle, rspRHi := Config.idleHi s.cycle }

/-- R302: the time left for the first `req_ready = 1` after reset, one cycle on; none once it has been 1. -/
def State.readyByNext (s : State) : Option Nat := if s.reqReady then none else s.readyBy.map (· - 1)

/-- R29, R302, R313: `req_ready` of the next cycle. It is 0 when the queue is full and otherwise free, but 1 at the latest when
the time of R302 has run out. Log entries 7 and 8. -/
def State.driveReady (s : State) : State :=
  { s with readyBy := s.readyByNext,
           reqReady := decide (s.inflight.length < Config.depth) &&
             (s.readyByNext == some 0 || Config.readyChoice s.cycle (s.inflight.map (·.req.op))) }

/-- The host's signals of the next cycle, and the count of edges. Log entries 1, 2 and 12. -/
def State.nextInputs (s : State) : State :=
  { s with ins := s.script.headD Inputs.idle, script := s.script.tail, cycle := s.cycle + 1 }

/-- A clock edge without reset, up to the presenting of a new response. -/
def State.edge (s : State) : State := s.retire.age.enqueue.floatResponse.driveReady.nextInputs

/-- R29, R31, R311: the oldest request in flight, when no response is waiting to be taken and its latency has passed. -/
def State.due (s : State) : Option Request :=
  match s.rspValid, s.inflight with
  | false, e :: _ => if e.wait = 0 then some e.req else none
  | _, _ => none

/-- R300, R301, R302: a clock edge with `rst = 1`. The queue is emptied, a presented response is withdrawn, no request is
accepted; `req_ready` and the response signals are free (log entries 8 and 10). -/
def State.takeReset (s : State) : State :=
  { s with ins := s.script.headD Inputs.idle, script := s.script.tail, cycle := s.cycle + 1,
           reqReady := Config.readyChoice s.cycle [], rspValid := false,
           rspStatus := Config.idleStatus s.cycle, rspCause := Config.idleCause s.cycle,
           rspRLo := Config.idleLo s.cycle, rspRHi := Config.idleHi s.cycle,
           inflight := [], readyBy := some (Config.readyDelay s.cycle) }

/-- The state in which the request `r`, and nothing else, is in flight and its response due at the next edge. Log entry 3. -/
def State.withRequest (s : State) (r : Request) : State :=
  { s with ins := { s.ins with rst := false }, rspValid := false, inflight := [⟨r, 0⟩] }

end Sys2Proof.Machine
end

