-- ==== Sys2Proof/Machine/Diagnostic.lean ====
section
/-! DEFINITION. The diagnostic hook (spec/47_diagnostic.md): BRK. -/

namespace Sys2Proof.Machine

/-- R260: the outcome of BRK, two zero words; it does not abort, stop or vector. -/
def brkResult : Result := resultZero

/-- BRK, R260. -/
def execBrk (s : State) : Host.Outcome State Fault Refusal := answer brkResult s

end Sys2Proof.Machine
end

