-- ==== Sys2Proof/Machine/Format.lean ====
section
/-! DEFINITION. What the quad operations share (spec/43_quad_format.md): formats and fields (R150 to R153), classification
(R151), unpacking (R155), the rounding function on exact magnitudes (R156) and on integers (R157), and the NaN rules (R160 to
R162). A pattern of a format is taken here as the natural number its bits spell (log entry 17), so that one definition serves
the three formats. -/

namespace Sys2Proof.Machine

/-- R153: a format, by its `W` exponent bits and `T` fraction bits. -/
structure Format where
  W : Nat
  T : Nat
  deriving DecidableEq, Repr

/-- R153: binary128. -/
def formatQ : Format := ⟨15, 112⟩

/-- R152, R153: binary64. -/
def formatD : Format := ⟨11, 52⟩

/-- R152, R153: binary32. -/
def formatS : Format := ⟨8, 23⟩

/-- R153: `P = T + 1`. -/
def Format.P (F : Format) : Nat := F.T + 1

/-- R153: `BIAS = 2^(W-1) - 1`. -/
def Format.bias (F : Format) : Int := 2 ^ (F.W - 1) - 1

/-- R153: `EMIN = 1 - BIAS`. -/
def Format.emin (F : Format) : Int := 1 - F.bias

/-- R153: `EMAX = BIAS`. -/
def Format.emax (F : Format) : Int := F.bias

/-- R153: the width of a pattern. -/
def Format.width (F : Format) : Nat := F.W + F.P

/-- R151, R152: the all-ones exponent field. -/
def Format.expOnes (F : Format) : Nat := 2 ^ F.W - 1

/-! ### Fields (R150, R152) -/

/-- The sign, the most significant bit. -/
def Format.sign (F : Format) (x : Nat) : Bool := x.testBit (F.W + F.T)

/-- The exponent field. -/
def Format.exponent (F : Format) (x : Nat) : Nat := x / 2 ^ F.T % 2 ^ F.W

/-- The fraction field. -/
def Format.fraction (F : Format) (x : Nat) : Nat := x % 2 ^ F.T

/-- R156: `{s, body}`, the sign above the `W + T` bits of exponent field and fraction. -/
def Format.pack (F : Format) (s : Bool) (body : Nat) : Nat := s.toNat * 2 ^ (F.W + F.T) + body

/-- A pattern from its three fields. -/
def Format.ofFields (F : Format) (s : Bool) (e f : Nat) : Nat := F.pack s (e * 2 ^ F.T + f)

/-! ### Classes (R151) -/

/-- R151: "every bit pattern decodes to exactly one of" these. -/
inductive FloatClass where
  | zero | subnormal | normal | infinity | nan
  deriving DecidableEq, Repr

/-- R151, R152: the class of a pattern. -/
def Format.classify (F : Format) (x : Nat) : FloatClass :=
  if F.exponent x = 0 then (if F.fraction x = 0 then .zero else .subnormal)
  else if F.exponent x = F.expOnes then (if F.fraction x = 0 then .infinity else .nan)
  else .normal

/-! ### Unpacking (R155) -/

/-- R155: sign, integer significand and exponent, of value `(-1)^s * m * 2^q`. -/
structure Unpacked where
  s : Bool
  m : Nat
  q : Int
  deriving DecidableEq, Repr

/-- R155: `Unpack_F`, for a finite pattern. -/
def Format.unpack (F : Format) (x : Nat) : Unpacked :=
  if F.exponent x = 0 then ⟨F.sign x, F.fraction x, F.emin - F.T⟩
  else ⟨F.sign x, 2 ^ F.T + F.fraction x, F.exponent x - F.bias - F.T⟩

/-- The exact integer `(-1)^s * m` of R155, R181 and R237. -/
def signedInt (s : Bool) (m : Nat) : Int := if s then -(m : Int) else m

/-- R151, R155: the value of a finite pattern. -/
def Format.value (F : Format) (x : Nat) : ℚ :=
  (signedInt (F.unpack x).s (F.unpack x).m : ℚ) * (2 : ℚ) ^ (F.unpack x).q

/-! ### Rounding (R156, R157) -/

/-- R14: `bitlen(n)`. -/
def bitlen (n : Nat) : Nat := if n = 0 then 0 else n.log2 + 1

/-- R156, R157: the last lines of both rounding functions, from the exponent `E` and the rounded significand `m`: a carry out of
`m` steps the exponent, and a body past the greatest finite one becomes infinity (R165). -/
def Format.finish (F : Format) (s : Bool) (E : Int) (m : Nat) : Nat :=
  F.pack s (min ((E - F.emin).toNat * 2 ^ F.T + m) (F.expOnes * 2 ^ F.T))

/-- R156: `Round_F(s, v)` for an exact magnitude `v >= 0`, a rational number (log entry 16). -/
def Format.round (F : Format) (s : Bool) (v : ℚ) : Nat :=
  if v = 0 then F.pack s 0
  else
    let E : Int := max (Int.log 2 v) F.emin
    let n : ℚ := v / (2 : ℚ) ^ (E - F.T)
    let m : Nat := ⌊n⌋.toNat
    let rem : ℚ := n - m
    F.finish s E (if rem > 1 / 2 ∨ (rem = 1 / 2 ∧ m % 2 = 1) then m + 1 else m)

/-- R157: drop the low `sh` bits of `M`, rounding to nearest, ties to even. -/
def roundShift (M sh : Nat) : Nat :=
  let m := M / 2 ^ sh
  let r := M % 2 ^ sh
  let half := 2 ^ (sh - 1)
  if r > half ∨ (r = half ∧ m % 2 = 1) then m + 1 else m

/-- R157: `RoundPackInt_F(s, M, x)`, the rounding of `M * 2^x` by integer operations. -/
def Format.roundPackInt (F : Format) (s : Bool) (M : Nat) (x : Int) : Nat :=
  if M = 0 then F.pack s 0
  else
    let E : Int := max (x + bitlen M - 1) F.emin
    let sh : Int := E - F.T - x
    F.finish s E (if sh ≤ 0 then M * 2 ^ (-sh).toNat else roundShift M sh.toNat)

/-! ### Quads (R150, R154, R160 to R163) -/

/-- R151: the class of a quad. -/
def classQ (x : Quad) : FloatClass := formatQ.classify x.toNat

/-- R151: the pattern is a NaN. -/
def isNaN (x : Quad) : Bool := classQ x = .nan

/-- R151: the pattern is an infinity. -/
def isInf (x : Quad) : Bool := classQ x = .infinity

/-- R151: the pattern is a zero. -/
def isZero (x : Quad) : Bool := classQ x = .zero

/-- R151: the pattern has a value. -/
def isFinite (x : Quad) : Bool := !isNaN x && !isInf x

/-- R150: the sign of a quad, `X[127]`. -/
def signQ (x : Quad) : Bool := x.msb

/-- R155: `Unpack_Q`. -/
def unpackQ (x : Quad) : Unpacked := formatQ.unpack x.toNat

/-- R157: `RoundPackInt_Q`, as a pattern. -/
def roundPackQ (s : Bool) (M : Nat) (x : Int) : Quad := BitVec.ofNat 128 (formatQ.roundPackInt s M x)

/-- R156: `Round_Q`, as a pattern. -/
def roundQ (s : Bool) (v : ℚ) : Quad := BitVec.ofNat 128 (formatQ.round s v)

/-- R151: the value of a finite quad. -/
def valueQ (x : Quad) : ℚ := formatQ.value x.toNat

/-- R154: the zero of sign `s`. -/
def zeroQ (s : Bool) : Quad := BitVec.ofNat 128 (formatQ.pack s 0)

/-- R154: the infinity of sign `s`. -/
def infQ (s : Bool) : Quad := BitVec.ofNat 128 (formatQ.ofFields s formatQ.expOnes 0)

/-- R160: the quiet bit of a quad. -/
def isQuiet (x : Quad) : Bool := x.getLsbD 111

/-- R160: `Quiet_Q(x)`, fraction bit 111 set. -/
def quietQ (x : Quad) : Quad := x ||| (1#128 <<< 111)

/-- R162: the first NaN operand, quieted. -/
def propagateNaN (a b : Quad) : Quad := if isNaN a then quietQ a else quietQ b

end Sys2Proof.Machine
end

