-- ==== Sys2Proof/Machine/QuadArith.lean ====
section
/-! DEFINITION. Quad arithmetic (spec/44_quad_arith.md): QADD, QSUB, QMUL, QDIV. Each decides in the order of R180: NaN
operands, infinities, zero divisors or dividends, then exact arithmetic with one rounding. None sets a flag or aborts (R166). -/

namespace Sys2Proof.Machine

/-- R181, both operands finite: the exact sum `t * 2^q`, rounded once; the sign of an exact zero sum is R163's. -/
def addFinite (a b : Quad) : Quad :=
  let ua := unpackQ a
  let ub := unpackQ b
  let q := min ua.q ub.q
  let t : Int := signedInt ua.s ua.m * 2 ^ (ua.q - q).toNat + signedInt ub.s ub.m * 2 ^ (ub.q - q).toNat
  if t = 0 then zeroQ (ua.s && ub.s) else roundPackQ (decide (t < 0)) t.natAbs q

/-- R181: the result of QADD. -/
def qaddValue (a b : Quad) : Quad :=
  if isNaN a || isNaN b then propagateNaN a b
  else if isInf a && isInf b then (if signQ a = signQ b then a else qnanDefault)
  else if isInf a then a
  else if isInf b then b
  else addFinite a b

/-- R182: a quad with bit 127 inverted. -/
def flipSign (x : Quad) : Quad := x ^^^ (1#128 <<< 127)

/-- R182: the result of QSUB; a NaN operand is propagated before any sign is flipped. -/
def qsubValue (a b : Quad) : Quad := if isNaN a || isNaN b then propagateNaN a b else qaddValue a (flipSign b)

/-- R183: the result of QMUL. -/
def qmulValue (a b : Quad) : Quad :=
  let s := (signQ a).xor (signQ b)
  if isNaN a || isNaN b then propagateNaN a b
  else if isInf a || isInf b then (if isZero a || isZero b then qnanDefault else infQ s)
  else roundPackQ s ((unpackQ a).m * (unpackQ b).m) ((unpackQ a).q + (unpackQ b).q)

/-- R184: an unpacked non-zero operand shifted until `2^112 <= m < 2^113`. -/
def normalise (u : Unpacked) : Unpacked :=
  let k := 113 - bitlen u.m
  ⟨u.s, u.m * 2 ^ k, u.q - k⟩

/-- R184, both operands finite and non-zero: the quotient to 115 extra bits with a sticky bit below it (R158), rounded once. -/
def divFinite (s : Bool) (a b : Quad) : Quad :=
  let ua := normalise (unpackQ a)
  let ub := normalise (unpackQ b)
  let qt := ua.m * 2 ^ 115 / ub.m
  let rm := ua.m * 2 ^ 115 - qt * ub.m
  roundPackQ s (2 * qt + (if rm ≠ 0 then 1 else 0)) (ua.q - ub.q - 116)

/-- R184: the result of QDIV. -/
def qdivValue (a b : Quad) : Quad :=
  let s := (signQ a).xor (signQ b)
  if isNaN a || isNaN b then propagateNaN a b
  else if isInf a then (if isInf b then qnanDefault else infQ s)
  else if isInf b then zeroQ s
  else if isZero b then (if isZero a then qnanDefault else infQ s)
  else if isZero a then zeroQ s
  else divFinite s a b

/-- R181: the outcome of QADD. -/
def qaddResult (a b : Quad) : Result := resultWide (qaddValue a b)

/-- R182: the outcome of QSUB. -/
def qsubResult (a b : Quad) : Result := resultWide (qsubValue a b)

/-- R183: the outcome of QMUL. -/
def qmulResult (a b : Quad) : Result := resultWide (qmulValue a b)

/-- R184: the outcome of QDIV. -/
def qdivResult (a b : Quad) : Result := resultWide (qdivValue a b)

/-- QADD, R181. -/
def execQadd (a b : Quad) (s : State) : Host.Outcome State Fault Refusal := answer (qaddResult a b) s

/-- QSUB, R182. -/
def execQsub (a b : Quad) (s : State) : Host.Outcome State Fault Refusal := answer (qsubResult a b) s

/-- QMUL, R183. -/
def execQmul (a b : Quad) (s : State) : Host.Outcome State Fault Refusal := answer (qmulResult a b) s

/-- QDIV, R184. -/
def execQdiv (a b : Quad) (s : State) : Host.Outcome State Fault Refusal := answer (qdivResult a b) s

end Sys2Proof.Machine
end

