-- ==== Sys2Proof/Machine/QuadCompare.lean ====
section
/-! DEFINITION. Quad comparisons (spec/45_quad_compare.md): QEQ, QNE, QGE, QGT, QLE, QLT, QCMP, QUNORD. -/

namespace Sys2Proof.Machine

/-- R210: the four outcomes of a comparison. -/
inductive Ordering4 where
  | less | equal | greater | unordered
  deriving DecidableEq, Repr

/-- R211: the integer whose order is the order of the values. -/
def orderKey (x : Quad) : Int :=
  let mag : Int := (x.extractLsb' 0 127).toNat
  if x.msb then -mag else mag

/-- R210: `Order(A, B)`. -/
def orderQ (a b : Quad) : Ordering4 :=
  if isNaN a || isNaN b then .unordered
  else if isZero a && isZero b then .equal
  else if orderKey a < orderKey b then .less
  else if orderKey a > orderKey b then .greater
  else .equal

/-- R212: `Code(A, B, sentinel)`. -/
def compareCode (a b : Quad) (sentinel : Int) : Int :=
  match orderQ a b with
  | .less => -1
  | .equal => 0
  | .greater => 1
  | .unordered => sentinel

/-- R213: the outcome of QEQ. -/
def qeqResult (a b : Quad) : Result := resultS32 (compareCode a b sentinelEq)

/-- R214: the outcome of QNE. -/
def qneResult (a b : Quad) : Result := resultS32 (compareCode a b sentinelNe)

/-- R215: the outcome of QGE. -/
def qgeResult (a b : Quad) : Result := resultS32 (compareCode a b sentinelGe)

/-- R216: the outcome of QGT. -/
def qgtResult (a b : Quad) : Result := resultS32 (compareCode a b sentinelGt)

/-- R217: the outcome of QLE. -/
def qleResult (a b : Quad) : Result := resultS32 (compareCode a b sentinelLe)

/-- R218: the outcome of QLT. -/
def qltResult (a b : Quad) : Result := resultS32 (compareCode a b sentinelLt)

/-- R219: the outcome of QCMP. -/
def qcmpResult (a b : Quad) : Result := resultS32 (compareCode a b sentinelCmp)

/-- R220: the outcome of QUNORD. -/
def qunordResult (a b : Quad) : Result := resultS32 (if isNaN a || isNaN b then 1 else 0)

/-- QEQ, R213. -/
def execQeq (a b : Quad) (s : State) : Host.Outcome State Fault Refusal := answer (qeqResult a b) s

/-- QNE, R214. -/
def execQne (a b : Quad) (s : State) : Host.Outcome State Fault Refusal := answer (qneResult a b) s

/-- QGE, R215. -/
def execQge (a b : Quad) (s : State) : Host.Outcome State Fault Refusal := answer (qgeResult a b) s

/-- QGT, R216. -/
def execQgt (a b : Quad) (s : State) : Host.Outcome State Fault Refusal := answer (qgtResult a b) s

/-- QLE, R217. -/
def execQle (a b : Quad) (s : State) : Host.Outcome State Fault Refusal := answer (qleResult a b) s

/-- QLT, R218. -/
def execQlt (a b : Quad) (s : State) : Host.Outcome State Fault Refusal := answer (qltResult a b) s

/-- QCMP, R219. -/
def execQcmp (a b : Quad) (s : State) : Host.Outcome State Fault Refusal := answer (qcmpResult a b) s

/-- QUNORD, R220. -/
def execQunord (a b : Quad) (s : State) : Host.Outcome State Fault Refusal := answer (qunordResult a b) s

end Sys2Proof.Machine
end

