-- ==== Sys2Proof/Machine/QuadConvert.lean ====
section
/-! DEFINITION. Quad conversions (spec/46_quad_convert.md): XSQ, XDQ, TQD, TQS, QTOI32, QTOI64, QTOU32, QTOU64. -/

namespace Sys2Proof.Machine

/-! ### Extend (R230) -/

/-- R230: `Extend_F(x)`, exact; a NaN keeps its sign, its left-aligned payload and its quiet bit (D21). -/
def Format.extend (F : Format) (x : Nat) : Quad :=
  let s := F.sign x
  let f := F.fraction x
  let fields (e g : Nat) : Quad := BitVec.ofNat 128 (formatQ.ofFields s e g)
  match F.classify x with
  | .zero => fields 0 0
  | .infinity => fields 32767 0
  | .nan => fields 32767 (f * 2 ^ (112 - F.T))
  | .normal => fields (F.exponent x - F.bias + 16383).toNat (f * 2 ^ (112 - F.T))
  | .subnormal => fields (16383 + ((bitlen f : Int) - 1) + (F.emin - F.T)).toNat (f * 2 ^ (113 - bitlen f) % 2 ^ 112)

/-- R231: the outcome of XSQ. -/
def xsqResult (f : Single) : Result := resultWide (formatS.extend f.toNat)

/-- R232: the outcome of XDQ. -/
def xdqResult (d : Double) : Result := resultWide (formatD.extend d.toNat)

/-! ### Truncate (R233) -/

/-- R233: `Trunc_F(X)`; a NaN keeps its sign and the top of its payload and is made quiet, so that it cannot become an infinity. -/
def Format.truncate (F : Format) (x : Quad) : Nat :=
  if isNaN x then F.ofFields (signQ x) F.expOnes (formatQ.fraction x.toNat / 2 ^ (112 - F.T) ||| 2 ^ (F.T - 1))
  else if isInf x then F.ofFields (signQ x) F.expOnes 0
  else F.roundPackInt (unpackQ x).s (unpackQ x).m (unpackQ x).q

/-- R234: the outcome of TQD. -/
def tqdResult (a : Quad) : Result := resultB64 (BitVec.ofNat 64 (formatD.truncate a))

/-- R235: the outcome of TQS; one rounding, from the quad. -/
def tqsResult (a : Quad) : Result := resultB32 (BitVec.ofNat 32 (formatS.truncate a))

/-! ### Quad to integer (R237) -/

/-- R237: the finite quad truncated toward zero. -/
def truncInt (x : Quad) : Int :=
  let u := unpackQ x
  signedInt u.s (if 0 ≤ u.q then u.m * 2 ^ u.q.toNat else u.m / 2 ^ (-u.q).toNat)

/-- R237: `ToInt(X, lo, hi)`, none where it aborts. -/
def toInt? (x : Quad) (lo hi : Int) : Option Int :=
  if isNaN x || isInf x then none
  else if truncInt x < lo ∨ truncInt x > hi then none
  else some (truncInt x)

/-- R237, R276: a converted integer placed by its result form, or the abort of `POL_CONV`. -/
def convertTo (x : Quad) (lo hi : Int) (place : Int → Result) : Result :=
  match toInt? x lo hi with
  | some t => place t
  | none => polConv

/-- R238: the outcome of QTOI32. -/
def qtoi32Result (a : Quad) : Result := convertTo a (-2 ^ 31) (2 ^ 31 - 1) resultS32

/-- R239: the outcome of QTOI64. -/
def qtoi64Result (a : Quad) : Result := convertTo a (-2 ^ 63) (2 ^ 63 - 1) resultI64

/-- R240: the outcome of QTOU32. -/
def qtou32Result (a : Quad) : Result := convertTo a 0 (2 ^ 32 - 1) resultU32

/-- R241: the outcome of QTOU64. -/
def qtou64Result (a : Quad) : Result := convertTo a 0 (2 ^ 64 - 1) resultI64

/-! ### The meanings -/

/-- XSQ, R231. -/
def execXsq (f : Single) (s : State) : Host.Outcome State Fault Refusal := answer (xsqResult f) s

/-- XDQ, R232. -/
def execXdq (d : Double) (s : State) : Host.Outcome State Fault Refusal := answer (xdqResult d) s

/-- TQD, R234. -/
def execTqd (a : Quad) (s : State) : Host.Outcome State Fault Refusal := answer (tqdResult a) s

/-- TQS, R235. -/
def execTqs (a : Quad) (s : State) : Host.Outcome State Fault Refusal := answer (tqsResult a) s

/-- QTOI32, R238. -/
def execQtoi32 (a : Quad) (s : State) : Host.Outcome State Fault Refusal := answer (qtoi32Result a) s

/-- QTOI64, R239. -/
def execQtoi64 (a : Quad) (s : State) : Host.Outcome State Fault Refusal := answer (qtoi64Result a) s

/-- QTOU32, R240. -/
def execQtou32 (a : Quad) (s : State) : Host.Outcome State Fault Refusal := answer (qtou32Result a) s

/-- QTOU64, R241. -/
def execQtou64 (a : Quad) (s : State) : Host.Outcome State Fault Refusal := answer (qtou64Result a) s

end Sys2Proof.Machine
end

