-- ==== Sys2Proof/Machine/WideDiv.lean ====
section
/-! DEFINITION. The 128-bit divider and modulo engine (spec/41_wide_divide_modulo.md): DIVS, DIVU, MODS, MODU. The zero-divisor
test comes before everything else (R110). -/

namespace Sys2Proof.Machine

/-- R110: the zero-divisor test shared by the four operations. -/
def unlessZeroDivisor (b : Wide) (r : Result) : Result := if b = 0 then polDivByZero else r

/-- R112: quotient toward zero, then `wrap128`, which matters for -2^127 by -1 only (R117, log entry 15). -/
def signedQuotient (a b : Int) : Int :=
  let q : Int := ((a.natAbs / b.natAbs : Nat) : Int)
  if (decide (a < 0)).xor (decide (b < 0)) then -q else q

/-- R114: the remainder has the sign of the dividend. -/
def signedRemainder (a b : Int) : Int :=
  let r : Int := (a.natAbs : Int) - (b.natAbs : Int) * ((a.natAbs / b.natAbs : Nat) : Int)
  if a < 0 then -r else r

/-- R112: the outcome of DIVS. -/
def divsResult (a b : Wide) : Result := unlessZeroDivisor b (resultWide (wrap128 (signedQuotient (s128 a) (s128 b))))

/-- R111: the outcome of DIVU. -/
def divuResult (a b : Wide) : Result := unlessZeroDivisor b (resultWide (BitVec.ofNat 128 (u128 a / u128 b)))

/-- R114: the outcome of MODS. -/
def modsResult (a b : Wide) : Result := unlessZeroDivisor b (resultWide (wrap128 (signedRemainder (s128 a) (s128 b))))

/-- R113: the outcome of MODU. -/
def moduResult (a b : Wide) : Result :=
  unlessZeroDivisor b (resultWide (BitVec.ofNat 128 (u128 a - u128 b * (u128 a / u128 b))))

/-- DIVS, R112. -/
def execDivs (a b : Wide) (s : State) : Host.Outcome State Fault Refusal := answer (divsResult a b) s

/-- DIVU, R111. -/
def execDivu (a b : Wide) (s : State) : Host.Outcome State Fault Refusal := answer (divuResult a b) s

/-- MODS, R114. -/
def execMods (a b : Wide) (s : State) : Host.Outcome State Fault Refusal := answer (modsResult a b) s

/-- MODU, R113. -/
def execModu (a b : Wide) (s : State) : Host.Outcome State Fault Refusal := answer (moduResult a b) s

end Sys2Proof.Machine
end

