-- ==== Sys2Proof/Machine/WideMul.lean ====
section
/-! DEFINITION. The 128-bit multiplier (spec/40_wide_multiply.md): MUL. -/

namespace Sys2Proof.Machine

/-- R100: the low 128 bits of the product; overflow wraps, nothing aborts. -/
def mulResult (a b : Wide) : Result :=
  let p := u128 a * u128 b
  resultWide (BitVec.ofNat 128 (p % 2 ^ 128))

/-- MUL, R100. -/
def execMul (a b : Wide) (s : State) : Host.Outcome State Fault Refusal := answer (mulResult a b) s

end Sys2Proof.Machine
end

