-- ==== Sys2Proof/Machine/WideShift.lean ====
section
/-! DEFINITION. The 128-bit barrel shifters (spec/42_wide_shifts.md): LSHL, LSHR, ASHL, ASHR. The count is all 64 bits of its
word, and the test for 128 or more comes first (R130). -/

namespace Sys2Proof.Machine

/-- R130: the count test shared by the four operations; `f` shifts by a count of 0 to 127. -/
def withCount (c : Word) (f : Nat → Wide) : Result := if 128 ≤ u64 c then polShift else resultWide (f (u64 c))

/-- R131, R133: `(U128(A) * 2^C) mod 2^128`. -/
def shiftLeft (a : Wide) (c : Nat) : Wide := BitVec.ofNat 128 (u128 a * 2 ^ c % 2 ^ 128)

/-- R132: `floor(U128(A) / 2^C)`. -/
def shiftRightLogical (a : Wide) (c : Nat) : Wide := BitVec.ofNat 128 (u128 a / 2 ^ c)

/-- R134: `wrap128(floor(S128(A) / 2^C))`; `/` on Int rounds toward minus infinity for a positive divisor. -/
def shiftRightArithmetic (a : Wide) (c : Nat) : Wide := wrap128 (s128 a / 2 ^ c)

/-- R131: the outcome of LSHL. -/
def lshlResult (a : Wide) (c : Word) : Result := withCount c (shiftLeft a)

/-- R132: the outcome of LSHR. -/
def lshrResult (a : Wide) (c : Word) : Result := withCount c (shiftRightLogical a)

/-- R133: the outcome of ASHL, bit for bit that of LSHL. -/
def ashlResult (a : Wide) (c : Word) : Result := withCount c (shiftLeft a)

/-- R134: the outcome of ASHR. -/
def ashrResult (a : Wide) (c : Word) : Result := withCount c (shiftRightArithmetic a)

/-- LSHL, R131. -/
def execLshl (a : Wide) (c : Word) (s : State) : Host.Outcome State Fault Refusal := answer (lshlResult a c) s

/-- LSHR, R132. -/
def execLshr (a : Wide) (c : Word) (s : State) : Host.Outcome State Fault Refusal := answer (lshrResult a c) s

/-- ASHL, R133. -/
def execAshl (a : Wide) (c : Word) (s : State) : Host.Outcome State Fault Refusal := answer (ashlResult a c) s

/-- ASHR, R134. -/
def execAshr (a : Wide) (c : Word) (s : State) : Host.Outcome State Fault Refusal := answer (ashrResult a c) s

end Sys2Proof.Machine
end

