-- ==== Sys2Proof/Machine/Dispatch.lean ====
section
/-! DEFINITION. One arm per operation of the opcode map (R64), each one call of its meaning. -/

namespace Sys2Proof.Machine

/-- R31: the effect of an operation, whose response is presented. -/
def exec (i : Instr) (s : State) : Host.Outcome State Fault Refusal :=
  match i with
  | .mul a b => Sys2Proof.Machine.execMul a b s
  | .divs a b => Sys2Proof.Machine.execDivs a b s
  | .divu a b => Sys2Proof.Machine.execDivu a b s
  | .mods a b => Sys2Proof.Machine.execMods a b s
  | .modu a b => Sys2Proof.Machine.execModu a b s
  | .lshl a c => Sys2Proof.Machine.execLshl a c s
  | .lshr a c => Sys2Proof.Machine.execLshr a c s
  | .ashl a c => Sys2Proof.Machine.execAshl a c s
  | .ashr a c => Sys2Proof.Machine.execAshr a c s
  | .qadd a b => Sys2Proof.Machine.execQadd a b s
  | .qsub a b => Sys2Proof.Machine.execQsub a b s
  | .qmul a b => Sys2Proof.Machine.execQmul a b s
  | .qdiv a b => Sys2Proof.Machine.execQdiv a b s
  | .qeq a b => Sys2Proof.Machine.execQeq a b s
  | .qne a b => Sys2Proof.Machine.execQne a b s
  | .qge a b => Sys2Proof.Machine.execQge a b s
  | .qgt a b => Sys2Proof.Machine.execQgt a b s
  | .qle a b => Sys2Proof.Machine.execQle a b s
  | .qlt a b => Sys2Proof.Machine.execQlt a b s
  | .qcmp a b => Sys2Proof.Machine.execQcmp a b s
  | .qunord a b => Sys2Proof.Machine.execQunord a b s
  | .xsq f => Sys2Proof.Machine.execXsq f s
  | .xdq d => Sys2Proof.Machine.execXdq d s
  | .tqd a => Sys2Proof.Machine.execTqd a s
  | .tqs a => Sys2Proof.Machine.execTqs a s
  | .qtoi32 a => Sys2Proof.Machine.execQtoi32 a s
  | .qtoi64 a => Sys2Proof.Machine.execQtoi64 a s
  | .qtou32 a => Sys2Proof.Machine.execQtou32 a s
  | .qtou64 a => Sys2Proof.Machine.execQtou64 a s
  | .brk => Sys2Proof.Machine.execBrk s

end Sys2Proof.Machine
end

