-- ==== Sys2Proof/Machine/Exec.lean ====
section
/-! DEFINITION. The whole behaviour of the WAU as one total function of the five request fields (R15). -/

namespace Sys2Proof.Machine

/-- R15: the outcome of an operation; it depends on the opcode and the operands alone. -/
def resultOf (i : Instr) : Result :=
  match i with
  | .mul a b => mulResult a b
  | .divs a b => divsResult a b
  | .divu a b => divuResult a b
  | .mods a b => modsResult a b
  | .modu a b => moduResult a b
  | .lshl a c => lshlResult a c
  | .lshr a c => lshrResult a c
  | .ashl a c => ashlResult a c
  | .ashr a c => ashrResult a c
  | .qadd a b => qaddResult a b
  | .qsub a b => qsubResult a b
  | .qmul a b => qmulResult a b
  | .qdiv a b => qdivResult a b
  | .qeq a b => qeqResult a b
  | .qne a b => qneResult a b
  | .qge a b => qgeResult a b
  | .qgt a b => qgtResult a b
  | .qle a b => qleResult a b
  | .qlt a b => qltResult a b
  | .qcmp a b => qcmpResult a b
  | .qunord a b => qunordResult a b
  | .xsq f => xsqResult f
  | .xdq d => xdqResult d
  | .tqd a => tqdResult a
  | .tqs a => tqsResult a
  | .qtoi32 a => qtoi32Result a
  | .qtoi64 a => qtoi64Result a
  | .qtou32 a => qtou32Result a
  | .qtou64 a => qtou64Result a
  | .brk => brkResult

/-- R15, R69, R278: `Exec(op, w0, w1, w2, w3)`. A reserved opcode is ILLEGAL_OP whatever the operand words. -/
def outcome (r : Request) : Result :=
  match decode r with
  | .ok i => resultOf i
  | .error _ => .abort .illegalOp

end Sys2Proof.Machine
end

