-- ==== Sys2Proof/Machine/Step.lean ====
section
/-! DEFINITION. One step of the machine: one rising edge of `clk` (R21). -/

namespace Sys2Proof.Machine

/-- R21, R31, R300: a clock edge. With `rst = 1` the machine is reset. Otherwise the ports and the queue move on, and the oldest
request whose response is due is decoded and executed; a reserved opcode aborts (R274). -/
def step (s : State) : Host.Outcome State Fault Refusal :=
  if s.ins.rst then .next s.takeReset
  else
    match s.edge.due with
    | none => .next s.edge
    | some r =>
      match decode r with
      | .ok i => exec i s.edge
      | .error _ => .next (s.edge.takeAbort .illegalOp)

/-- The state in which a request whose low `nbits` bits are `w`, all others 0, is the one request in flight and due. Log entry 3. -/
def State.withFetchWord (s : State) (nbits w : Nat) : State :=
  s.withRequest (tableRequest nbits w)

end Sys2Proof.Machine
end

