-- ==== Sys2Proof/Machine/Datapath.lean ====
section
/-! DEFINITION. The reference datapaths of the spec, which are informative (D35): partial-product and bit-serial multipliers
(R103, R104), the restoring divider and the signed operations on it (R118, R119), the barrel shifter and the word-level shift
table (R136, R137), the guard/round/sticky adder (R190), the quad multiplier and divider (R191, R192). The meanings do not use
them; the statements say that they give the results the rules fix. -/

namespace Sys2Proof.Machine

/-! ### Multipliers (R103, R104) -/

/-- R103: partial products of 64-bit limbs; only `p00` is needed in full. -/
def mulLimbs (a b : Wide) : Wide :=
  let p00 : Wide := (loWord a).zeroExtend 128 * (loWord b).zeroExtend 128
  let p01 : Word := loWord a * hiWord b
  let p10 : Word := hiWord a * loWord b
  pair (hiWord p00 + p01 + p10) (loWord p00)

/-- R104: the partial products of bits 0 to `n - 1` of B, accumulated in 128 bits. -/
def mulAccumulate (a b : Wide) : Nat → Wide
  | 0 => 0
  | n + 1 => if b.getLsbD n then mulAccumulate a b n + a <<< n else mulAccumulate a b n

/-- R104: the bit-serial multiplier, 128 steps. -/
def mulSerial (a b : Wide) : Wide := mulAccumulate a b 128

/-! ### Restoring divider (R118, R119) -/

/-- R118: the steps for bits `k - 1` down to 0 of `N`, from quotient and remainder so far. -/
def restoringSteps (n d : Nat) : Nat → Nat × Nat → Nat × Nat
  | 0, qr => qr
  | k + 1, (q, r) =>
    let r2 := 2 * r + (n.testBit k).toNat
    if d ≤ r2 then restoringSteps n d k (q + 2 ^ k, r2 - d) else restoringSteps n d k (q, r2)

/-- R118: quotient and remainder of two 128-bit numbers, the divisor not zero. -/
def restoring (n d : Nat) : Nat × Nat := restoringSteps n d 128 (0, 0)

/-- R119: `|x|` as an unsigned pattern. -/
def magnitude (x : Wide) : Wide := if x.msb then 0 - x else x

/-- R119: DIVS on the unsigned divider. -/
def divsRestoring (a b : Wide) : Wide :=
  let q : Wide := BitVec.ofNat 128 (restoring (magnitude a).toNat (magnitude b).toNat).1
  if a.msb.xor b.msb then 0 - q else q

/-- R119: MODS on the unsigned divider. -/
def modsRestoring (a b : Wide) : Wide :=
  let r : Wide := BitVec.ofNat 128 (restoring (magnitude a).toNat (magnitude b).toNat).2
  if a.msb then 0 - r else r

/-! ### Barrel shifter (R136) -/

/-- The four shift operations. -/
inductive ShiftKind where
  | lshl | lshr | ashl | ashr
  deriving DecidableEq, Repr

/-- R136: the shift is to the left. -/
def ShiftKind.isLeft : ShiftKind → Bool
  | .lshl | .ashl => true
  | .lshr | .ashr => false

/-- R136: the bit that enters at the top of a right shift. -/
def ShiftKind.fill (k : ShiftKind) (a : Wide) : Bool := k = .ashr && a.msb

/-- R136: stage `k`, a shift by 2^k when bit `k` of the count is set. -/
def barrelStage (left fill : Bool) (c : Word) (x : Wide) (k : Nat) : Wide :=
  if c.getLsbD k then
    if left then x <<< 2 ^ k
    else x >>> 2 ^ k ||| (if fill then BitVec.allOnes 128 <<< (128 - 2 ^ k) else 0)
  else x

/-- R136: the range test on the high bits of the count, then the seven stages. -/
def barrelShift (k : ShiftKind) (a : Wide) (c : Word) : Result :=
  if c.extractLsb' 7 57 ≠ 0 then polShift
  else resultWide ([0, 1, 2, 3, 4, 5, 6].foldl (barrelStage k.isLeft (k.fill a) c) a)

/-- R64: the instruction of a shift kind. -/
def ShiftKind.instr (k : ShiftKind) (a : Wide) (c : Word) : Instr :=
  match k with
  | .lshl => .lshl a c
  | .lshr => .lshr a c
  | .ashl => .ashl a c
  | .ashr => .ashr a c

/-! ### Word-level shifts (R137) -/

/-- R137: `(r_lo, r_hi)` of LSHL and ASHL. -/
def wordShiftLeft (lo hi : Word) (c : Nat) : Word × Word :=
  if c = 0 then (lo, hi)
  else if c < 64 then (lo <<< c, hi <<< c ||| lo >>> (64 - c))
  else if c = 64 then (0, lo)
  else (0, lo <<< (c - 64))

/-- R137: `(r_lo, r_hi)` of LSHR. -/
def wordShiftRightLogical (lo hi : Word) (c : Nat) : Word × Word :=
  if c = 0 then (lo, hi)
  else if c < 64 then (lo >>> c ||| hi <<< (64 - c), hi >>> c)
  else if c = 64 then (hi, 0)
  else (hi >>> (c - 64), 0)

/-- R137: `(r_lo, r_hi)` of ASHR. -/
def wordShiftRightArithmetic (lo hi : Word) (c : Nat) : Word × Word :=
  let signs : Word := if hi.msb then BitVec.allOnes 64 else 0
  if c = 0 then (lo, hi)
  else if c < 64 then (lo >>> c ||| hi <<< (64 - c), hi.sshiftRight c)
  else if c = 64 then (hi, signs)
  else (hi.sshiftRight (c - 64), signs)

/-! ### Guard/round/sticky adder (R190) -/

/-- R190: exponent and significand, of value `m * 2^(E - 16495)`. -/
def grsUnpack (x : Quad) : Nat × Nat :=
  let e := formatQ.exponent x.toNat
  let f := formatQ.fraction x.toNat
  if e = 0 then (1, f) else (e, 2 ^ 112 + f)

/-- R190: the aligned smaller significand, the lost bits OR-ed into bit 0. -/
def grsAlign (m d : Nat) : Nat :=
  if 116 ≤ d then (if m ≠ 0 then 1 else 0) else m / 2 ^ d ||| (if m % 2 ^ d ≠ 0 then 1 else 0)

/-- R190: left normalisation, stopping at `E = 1`; the first argument bounds the steps. -/
def grsNormalise : Nat → Nat × Nat → Nat × Nat
  | 0, se => se
  | n + 1, (s, e) => if s < 2 ^ 115 ∧ 1 < e then grsNormalise n (2 * s, e - 1) else (s, e)

/-- R190: from the ordered operands, larger magnitude `(ea, ma)` first. -/
def grsAddOrdered (sa sb : Bool) (ea ma eb mb : Nat) : Quad :=
  let big := ma * 8
  let small := grsAlign (mb * 8) (ea - eb)
  let sum := if sa = sb then big + small else big - small
  if sum = 0 then zeroQ (sa && sb)
  else
    let se := if 2 ^ 116 ≤ sum then (sum / 2 ||| sum % 2, ea + 1) else (sum, ea)
    let n := grsNormalise 116 se
    let grs := n.1 % 8
    let m := n.1 / 8
    let m2 := if 4 < grs ∨ (grs = 4 ∧ m % 2 = 1) then m + 1 else m
    BitVec.ofNat 128 (formatQ.pack sa (min ((n.2 - 1) * 2 ^ 112 + m2) (32767 * 2 ^ 112)))

/-- R190: the adder on two finite operands. -/
def grsAdd (a b : Quad) : Quad :=
  let ua := grsUnpack a
  let ub := grsUnpack b
  if ub.1 < ua.1 ∨ (ub.1 = ua.1 ∧ ub.2 ≤ ua.2) then grsAddOrdered (signQ a) (signQ b) ua.1 ua.2 ub.1 ub.2
  else grsAddOrdered (signQ b) (signQ a) ub.1 ub.2 ua.1 ua.2

/-! ### Quad multiplier and divider (R191, R192) -/

/-- R191: the exact product of two significands by partial products of a 64-bit split. -/
def quadProduct (ma mb : Nat) : Nat :=
  let mah := ma / 2 ^ 64
  let mal := ma % 2 ^ 64
  let mbh := mb / 2 ^ 64
  let mbl := mb % 2 ^ 64
  (mah * mbh) * 2 ^ 128 + (mah * mbl + mal * mbh) * 2 ^ 64 + mal * mbl

/-- R191: the multiplier on two finite operands. -/
def quadMulDatapath (a b : Quad) : Quad :=
  roundPackQ ((signQ a).xor (signQ b)) (quadProduct (unpackQ a).m (unpackQ b).m) ((unpackQ a).q + (unpackQ b).q)

/-- R192: the 116 restoring steps that divide a 228-bit by a 113-bit number; the bits above the quotient start the remainder. -/
def quadQuotient (n d : Nat) : Nat × Nat := restoringSteps n d 116 (0, n / 2 ^ 116)

/-- R192: the divider on two finite non-zero operands, its remainder the sticky bit. -/
def quadDivDatapath (a b : Quad) : Quad :=
  let ua := normalise (unpackQ a)
  let ub := normalise (unpackQ b)
  let qr := quadQuotient (ua.m * 2 ^ 115) ub.m
  roundPackQ ((signQ a).xor (signQ b)) (2 * qr.1 + (if qr.2 ≠ 0 then 1 else 0)) (ua.q - ub.q - 116)

end Sys2Proof.Machine
end

