-- ==== Sys2Proof/Machine/HostSide.lean ====
section
/-! DEFINITION. Host programs over the WAU (R33, R72 to R74, R279). They are outside the machine: a host issues requests one at a
time, binds results to names, computes and branches on its own, and ends in a failed state at the first abort. -/

namespace Sys2Proof.Machine

/-- R72: an operand of a line, a literal or the name of an earlier result. -/
inductive Operand where
  | lit (v : Wide)
  | var (name : String)
  deriving DecidableEq, Repr

/-- R72: `[name =] MNEMONIC [operand {, operand}]`. -/
structure Line where
  bind : Option String
  mnemonic : String
  operands : List Operand
  deriving DecidableEq, Repr

/-- The host's variables, newest first. -/
abbrev HostEnv := List (String × Wide)

/-- R72: the value of an operand; none for a name that nothing has bound. -/
def Operand.value (env : HostEnv) : Operand → Option Wide
  | .lit v => some v
  | .var name => env.lookup name

/-- R72: a value for a narrower operand (a count, a double, a single). DESIGN CHOICE (log entry 27): it is taken if it fits. -/
def fitting (w : Nat) (v : Wide) : Option Wide := if v.toNat < 2 ^ w then some v else none

/-- R73: the raw form of a mnemonic with its operand values; none if their number is not the form's, or if a value does not fit its
operand (DESIGN CHOICE, log entry 27). -/
def rawOf? (row : OpRow) (vs : List Wide) : Option Request :=
  match row.operands, vs with
  | .ww, [a, b] => some (rawTwo row.code a b)
  | .qq, [a, b] => some (rawTwo row.code a b)
  | .wc, [a, c] => (fitting 64 c).map fun c => rawCount row.code a (loWord c)
  | .q, [a] => some (rawOne row.code a)
  | .d, [d] => (fitting 64 d).map fun d => rawWord row.code (loWord d)
  | .s, [f] => (fitting 32 f).map fun f => rawWord row.code (loWord f)
  | .none, [] => some (rawWord row.code 0)
  | _, _ => none

/-- R72: what a name bound to a result stands for: the 128-bit pattern of a wide or quad result, else `r_lo`. DESIGN CHOICE (log entry
27): as a 128-bit operand, `r_lo` is zero-extended. -/
def boundValue (form : ResultForm) (lo hi : Word) : Wide :=
  match form with
  | .wide | .quad => pair hi lo
  | .s32 | .u32 | .i64 | .b64 | .b32 | .zero => lo.zeroExtend 128

/-- R64, R72: the row of a mnemonic. -/
def rowOfMnemonic? (m : String) : Option OpRow := opRows.find? (fun row => row.mnemonic = m)

/-- R73: the request of a line in an environment; none for a line that is no line of R72. -/
def Line.request? (l : Line) (env : HostEnv) : Option (OpRow × Request) :=
  match rowOfMnemonic? l.mnemonic, l.operands.mapM (Operand.value env) with
  | some row, some vs => (rawOf? row vs).map fun r => (row, r)
  | _, _ => none

/-- R74: a step of a host program. Host-side steps, in braces in the spec, are the host's own functions. -/
inductive HostStep where
  /-- R72: a line. -/
  | line (l : Line)
  /-- R73: `REQ op, w0, w1, w2, w3`; a name bound to it stands for the pattern `{r_hi, r_lo}` (DESIGN CHOICE, log entry 27). -/
  | raw (bind : Option String) (r : Request)
  /-- R74: `{ name = … }`. -/
  | compute (name : String) (f : HostEnv → Wide)
  /-- R74: `{ if … goto n }`. -/
  | branch (cond : HostEnv → Bool) (target : Nat)
  /-- R74: `{ stop }`. -/
  | stop

/-- Where a host program stands. -/
inductive HostStatus where
  | running (at_ : Nat)
  | ended
  /-- R279 (b), (c), U19: ended by the first abort; never a successful end. -/
  | failed (c : Cause)
  /-- A line that is not one of R72: no request is issued. -/
  | notALine
  deriving DecidableEq, Repr

/-- A host: its variables and where it stands. -/
structure HostState where
  env : HostEnv
  status : HostStatus
  deriving DecidableEq, Repr

/-- R72: bind a value, if the step names one. -/
def bindResult (bind : Option String) (v : Wide) (env : HostEnv) : HostEnv :=
  match bind with
  | some name => (name, v) :: env
  | none => env

/-- R31, R279: issue one request and use its response; an abort binds nothing and ends the program. -/
def issue (bind : Option String) (form : ResultForm) (r : Request) (pos : Nat) (env : HostEnv) : HostState :=
  match outcome r with
  | .ok lo hi => ⟨bindResult bind (boundValue form lo hi) env, .running (pos + 1)⟩
  | .abort c => ⟨env, .failed c⟩

/-- One step of a host program. -/
def hostStep (prog : List HostStep) (h : HostState) : HostState :=
  match h.status with
  | .running pos =>
    match prog[pos]? with
    | none => { h with status := .ended }
    | some (.line l) =>
      match l.request? h.env with
      | some (row, r) => issue l.bind row.result r pos h.env
      | none => { h with status := .notALine }
    | some (.raw bind r) => issue bind .wide r pos h.env
    | some (.compute name f) => ⟨(name, f h.env) :: h.env, .running (pos + 1)⟩
    | some (.branch cond target) => { h with status := .running (if cond h.env then target else pos + 1) }
    | some .stop => { h with status := .ended }
  | .ended | .failed _ | .notALine => h

/-- R33: at most `n` steps of a host program. -/
def hostRun (prog : List HostStep) : Nat → HostState → HostState
  | 0, h => h
  | n + 1, h => hostRun prog n (hostStep prog h)

/-! ### The text of a line (R72, R73) -/

/-- A character of a name, a mnemonic or a literal. -/
def isTokenChar (c : Char) : Bool := c.isAlphanum || c = '_' || c = '-'

/-- The tokens of a line: runs of token characters, and `=` and `,` by themselves. The accumulator holds the token being read,
last character first. Log entry 24. -/
def tokens : List Char → List Char → List (List Char)
  | [], [] => []
  | [], acc => [acc.reverse]
  | c :: cs, acc =>
    if isTokenChar c then tokens cs (c :: acc)
    else
      let rest := if c = '=' || c = ',' then [c] :: tokens cs [] else tokens cs []
      if acc.isEmpty then rest else acc.reverse :: rest

/-- The value of a hex digit. DESIGN CHOICE (log entry 28): in upper or lower case. -/
def hexDigit (c : Char) : Option Nat :=
  if '0' ≤ c ∧ c ≤ '9' then some (c.toNat - 48)
  else if 'A' ≤ c ∧ c ≤ 'F' then some (c.toNat - 55)
  else if 'a' ≤ c ∧ c ≤ 'f' then some (c.toNat - 87)
  else none

/-- The value of a digit string in a base. -/
def digits (base : Nat) (cs : List Char) : Option Nat :=
  if cs.isEmpty then none
  else cs.foldlM (fun n c => (hexDigit c).bind fun d => if d < base then some (base * n + d) else none) 0

/-- R72: `0xHHHHHHHHHHHHHHHH_LLLLLLLLLLLLLLLL`, `0x` with 16 or 8 digits, or a decimal number, which stands for `wrap128` of it.
DESIGN CHOICE (log entry 28): every form is read for every operand. -/
def literal? (cs : List Char) : Option Wide :=
  match cs with
  | '0' :: 'x' :: ds =>
    if ds.length = 33 ∧ ds[16]? = some '_' then
      (digits 16 (ds.take 16)).bind fun h => (digits 16 (ds.drop 17)).map fun l => BitVec.ofNat 128 (h * 2 ^ 64 + l)
    else if ds.length = 16 ∨ ds.length = 8 then (digits 16 ds).map (BitVec.ofNat 128 ·)
    else none
  | '-' :: ds => (digits 10 ds).map fun n => wrap128 (-(n : Int))
  | ds => (digits 10 ds).map fun n => wrap128 (n : Int)

/-- R72: an operand token, a literal or a name. -/
def operand? (cs : List Char) : Option Operand :=
  match literal? cs, cs with
  | some v, _ => some (.lit v)
  | none, c :: _ => if c.isAlpha then some (.var (String.ofList cs)) else none
  | none, [] => none

/-- Operand tokens with commas between them. -/
def operandList? : List (List Char) → Option (List Operand)
  | [] => some []
  | [t] => (operand? t).map ([·])
  | t :: [','] :: u :: rest => (operand? t).bind fun o => (operandList? (u :: rest)).map (o :: ·)
  | _ => none

/-- R72: a line from its text. -/
def parseLine (cs : List Char) : Option Line :=
  match tokens cs [] with
  | name :: ['='] :: m :: rest => (operandList? rest).map fun os => ⟨some (String.ofList name), String.ofList m, os⟩
  | m :: rest => (operandList? rest).map fun os => ⟨none, String.ofList m, os⟩
  | [] => none

end Sys2Proof.Machine
end

