-- ==== Sys2Proof/Safety.lean ====
section
/-! DEFINITION. The terms claims are made in: what an operation answers with its whole frame, the invariant of the machine, runs
without reset, the requests accepted and the responses delivered in a run, what an observer of time sees, and what a safe run and
a well-behaved host are. -/

namespace Sys2Proof.Machine

/-! ### What one operation does -/

/-- `exec` answers OK with the two result words, and nothing but the response signals changes. -/
def AnswersOk (i : Instr) (s : State) (lo hi : Word) : Prop :=
  exec i s = .next { s with rspValid := true, rspStatus := 0, rspCause := 0, rspRLo := lo, rspRHi := hi }

/-- `exec` answers OK with a 128-bit pattern on the two result words (R68, forms wide and quad). -/
def AnswersWide (i : Instr) (s : State) (x : Wide) : Prop := AnswersOk i s (x.extractLsb' 0 64) (x.extractLsb' 64 64)

/-- `exec` answers OK with one word, `r_hi = 0` (R68, the scalar forms). -/
def AnswersWord (i : Instr) (s : State) (w : Word) : Prop := AnswersOk i s w 0

/-- `exec` answers ABORT with a cause code and some result words of which nothing is said (R275), and nothing but the response
signals changes. -/
def AnswersAbort (i : Instr) (s : State) (code : BitVec 3) : Prop :=
  ∃ lo hi, exec i s = .next { s with rspValid := true, rspStatus := 1, rspCause := code, rspRLo := lo, rspRHi := hi }

/-- The 128-bit pattern of an operation that ends OK. -/
def patternOf (i : Instr) : Option Wide :=
  match resultOf i with
  | .ok lo hi => some (hi ++ lo)
  | .abort _ => none

/-- The signed scalar of an operation that ends OK, read from `r_lo`. -/
def scalarOf (i : Instr) : Option Int :=
  match resultOf i with
  | .ok lo _ => some lo.toInt
  | .abort _ => none

/-! ### Values and bits, in terms that no operation uses -/

/-- The three formats of R153. -/
def threeFormats : List Format := [formatQ, formatD, formatS]

/-- R150, R151: the bits of a NaN, exponent field all ones and fraction field not zero. -/
abbrev nanBits (x : Quad) : Prop := x.extractLsb' 112 15 = 0x7FFF#15 ∧ x.extractLsb' 0 112 ≠ 0#112

/-- R150, R151: the bits of an infinity. -/
abbrev infBits (x : Quad) : Prop := x.extractLsb' 112 15 = 0x7FFF#15 ∧ x.extractLsb' 0 112 = 0#112

/-- R150, R151: the bits of a finite value. -/
abbrev finiteBits (x : Quad) : Prop := x.extractLsb' 112 15 ≠ 0x7FFF#15

/-- R150, R151: the bits of a zero. -/
abbrev zeroBits (x : Quad) : Prop := x.extractLsb' 0 127 = 0#127

/-- R160: a quad with its quiet bit set. -/
def withQuietBit (x : Quad) : Quad := x ||| BitVec.ofNat 128 (2 ^ 111)

/-- R154: the zero of a sign. -/
def signedZero (s : Bool) : Quad := BitVec.ofBool s ++ 0#127

/-- R154: the infinity of a sign. -/
def signedInf (s : Bool) : Quad := BitVec.ofBool s ++ 0x7FFF#15 ++ 0#112

/-- R161: the default NaN, by its hex digits. -/
def defaultNaN : Quad := 0x7FFF8000000000000000000000000000#128

/-- The place of a pattern that is no NaN in the order of values; every finite quad lies strictly between the infinities'. -/
def rankQ (x : Quad) : ℚ := if isInf x then (if x.msb then -2 ^ 16384 else 2 ^ 16384) else valueQ x

/-- R212: the three-way code of the order of two values, as a word of form s32. -/
def threeWay (a b : Quad) : Word := if rankQ a < rankQ b then -1 else if rankQ a = rankQ b then 0 else 1

/-- Truncation toward zero of a rational number. -/
def towardZero (v : ℚ) : Int := if 0 ≤ v then ⌊v⌋ else ⌈v⌉

/-- R165: halfway from the greatest finite value of a format to `2^(EMAX+1)`. -/
def overflowBound (F : Format) : ℚ := (2 - (2 : ℚ) ^ (-(F.P : ℤ))) * (2 : ℚ) ^ F.emax

/-! ### The invariant -/

/-- What every reachable state has: at most `DEPTH` requests in flight (R29), `req_ready` only with room for one more (R29), no
request with `LAT(op)` cycles or more still to wait (R311), and a presented response that is `Exec` of the oldest request (R31). -/
structure State.Inv (s : State) : Prop where
  fits : s.inflight.length ≤ Config.depth
  room : s.reqReady = true → s.inflight.length < Config.depth
  waits : ∀ e ∈ s.inflight, e.wait < lat e.req.op
  answered : s.rspValid = true → ∃ e es, s.inflight = e :: es ∧ s.presented = some (outcome e.req)

/-! ### Runs -/

/-- The host asserts no reset in the first `n` cycles from `s` on. -/
def State.noReset (n : Nat) (s : State) : Bool := ((s.ins :: s.script).take n).all fun x => !x.rst

/-- R21: the requests accepted in the first `n` cycles, in order. -/
def acceptedOver : Nat → State → List Request
  | 0, _ => []
  | n + 1, s =>
    (if s.accepting then [s.ins.req] else []) ++
      (match step s with
       | .next t => acceptedOver n t
       | .fault _ => []
       | .refused _ => [])

/-- R23: the responses delivered in the first `n` cycles, in order. -/
def deliveredOver : Nat → State → List Result
  | 0, _ => []
  | n + 1, s =>
    (if s.delivering then s.presented.toList else []) ++
      (match step s with
       | .next t => deliveredOver n t
       | .fault _ => []
       | .refused _ => [])

/-- The outcomes of the requests in flight, oldest first. -/
def State.pendingOutcomes (s : State) : List Result := s.inflight.map fun e => outcome e.req

/-- The state after `n` cycles is `t`. -/
def RunsTo (n : Nat) (s t : State) : Prop := Host.Core.run Sys2Proof.core n s = .next t

/-! ### What an observer of time sees (R311, R313) -/

/-- A request without its operand words. -/
def withoutWords (r : Request) : Request := ⟨r.op, 0, 0, 0, 0⟩

/-- The host's signals without the operand words. -/
def Inputs.eraseWords (x : Inputs) : Inputs := { x with req := withoutWords x.req }

/-- Everything of a state but operand words and what a response says: the opcodes, the handshakes, the queue's length and waits. -/
def State.timing (s : State) : State :=
  { s with ins := s.ins.eraseWords, script := s.script.map Inputs.eraseWords,
           inflight := s.inflight.map fun e => { e with req := withoutWords e.req },
           rspStatus := 0, rspCause := 0, rspRLo := 0, rspRHi := 0 }

/-! ### Hosts and safe runs -/

/-- R30: while a request waits for `req_ready`, the host's next signals carry the same opcode and operand words. DESIGN CHOICE (log
entry 26): a cycle with `rst = 1` asks nothing of the host. DESIGN CHOICE (log entry 29): the host may lower `req_valid`. -/
def State.hostHolds (s : State) : Bool :=
  !(s.ins.reqValid && !s.reqReady && !s.ins.rst) || (s.script.headD Inputs.idle).req = s.ins.req

/-- R279: a run of `n` cycles on whose results a host may rely, since no delivered response is an abort. -/
def State.safeRun (n : Nat) (s : State) : Prop := ∀ r ∈ deliveredOver n s, ∃ lo hi, r = .ok lo hi

end Sys2Proof.Machine
end

