-- ==== Sys2Proof/Certificates/Slice0/Obligations.lean ====
section
/-! DEFINITION. The statements for the provers. Each docstring names the rule of spec/ it rests on. -/

open Sys2Proof Sys2Proof.Machine

/-! ### Encoding (30_encoding.md) -/

/-- R64, R65, R73: every operation's raw form decodes to it, with every operand at every value. -/
def Obligations.DecodeOfEncodeIsTheInstruction : Prop := ∀ i : Instr, decode (encode i) = .ok i

/-- R66, R69, R73: a request with a defined opcode and every ignored bit 0 is the raw form of the operation it decodes to. -/
def Obligations.EncodeOfDecodeIsTheRequest : Prop :=
  ∀ r : Request, r.wellFormed = true → ∃ i, decode r = .ok i ∧ encode i = r

/-- R60: the request as one bit vector, field by field and both ways round. -/
def Obligations.RequestVectorHoldsTheFields : Prop :=
  (∀ r : Request, r.toVector.extractLsb' 0 8 = r.op ∧ r.toVector.extractLsb' 8 64 = r.w0 ∧
    r.toVector.extractLsb' 72 64 = r.w1 ∧ r.toVector.extractLsb' 136 64 = r.w2 ∧ r.toVector.extractLsb' 200 64 = r.w3 ∧
    Request.ofVector r.toVector = r) ∧
  ∀ v : BitVec 264, (Request.ofVector v).toVector = v

/-- R69, R274: the 226 opcodes of the ranges of R69, and no others, are rejected by the decoder; such a request is accepted like
any other and answered with ABORT, cause 4, whatever its operand words. -/
def Obligations.ReservedOpcodesAreIllegalOp : Prop :=
  (∀ r : Request, (decode r = .error (.reservedOpcode r.op) ↔ r.opReserved = true) ∧
    (outcome r = .abort .illegalOp ↔ r.opReserved = true)) ∧
  ((List.range 256).filter fun n => (⟨BitVec.ofNat 8 n, 0, 0, 0, 0⟩ : Request).opReserved).length = 226 ∧
  (∀ (s : State) (r : Request), { s with ins := { s.ins with req := r } }.accepting = s.accepting) ∧
  ∀ (s : State) (r : Request), s.ins.rst = false → s.edge.due = some r → r.opReserved = true →
    ∃ lo hi, step s = .next { s.edge with rspValid := true, rspStatus := 1, rspCause := 4, rspRLo := lo, rspRHi := hi }

/-- R15, R66: two requests with the same opcode that agree on the operand bits the opcode reads have the same outcome; a reserved
opcode reads none. -/
def Obligations.IgnoredOperandBitsDoNotMatter : Prop :=
  ∀ r r' : Request, r.op = r'.op →
    (r.opReserved = true ∨
      ((r.ignoresW1 = true ∨ r.w1 = r'.w1) ∧ (r.ignoresW2 = true ∨ r.w2 = r'.w2) ∧ (r.ignoresW3 = true ∨ r.w3 = r'.w3) ∧
       (r.ignoresW0High = true ∨ r.w0.extractLsb' 32 32 = r'.w0.extractLsb' 32 32) ∧
       (r.ignoresW0Low = true ∨ r.w0.extractLsb' 0 32 = r'.w0.extractLsb' 0 32))) →
    outcome r = outcome r'

/-- R61, R64: the opcode map has 30 rows with distinct codes whose two top bits are 00, and it lists exactly the opcodes that
decode. -/
def Obligations.OpcodeMapListsWhatDecodes : Prop :=
  opRows.length = 30 ∧ (opRows.map (·.code)).Nodup ∧ (∀ row ∈ opRows, row.code.extractLsb' 6 2 = 0#2) ∧
  ∀ r : Request, (opRow? r.op).isSome = true ↔ ∃ i, decode r = .ok i

/-- R64, R65, on words of 95_test_vectors.md (P1 to P6) and 96_test_vectors_quad.md written out by hand: a sanity check. -/
def Obligations.SampleRequestsDecode : Prop :=
  decode ⟨0x00, 0x64, 0, 0x64, 0⟩ = .ok (.mul 100 100) ∧
  decode ⟨0x01, 0xFFFFFFFFFFFFFF9C, 0xFFFFFFFFFFFFFFFF, 7, 0⟩ = .ok (.divs (-100) 7) ∧
  decode ⟨0x08, 0xFEDCBA9876543211, 0x8123456789ABCDEF, 0x40, 5⟩ = .ok (.ashr 0x8123456789ABCDEFFEDCBA9876543211 64) ∧
  decode ⟨0x13, 0, 0x3FFF000000000000, 0, 0x4000800000000000⟩ =
    .ok (.qdiv 0x3FFF0000000000000000000000000000 0x40008000000000000000000000000000) ∧
  decode ⟨0x25, 0, 0x3FFF800000000000, 0, 0x4000200000000000⟩ =
    .ok (.qlt 0x3FFF8000000000000000000000000000 0x40002000000000000000000000000000) ∧
  decode ⟨0x30, 0xDEADBEEF3FC00000, 1, 2, 3⟩ = .ok (.xsq 0x3FC00000) ∧
  decode ⟨0x34, 0, 0x4000E00000000000, 0, 0⟩ = .ok (.qtoi32 0x4000E000000000000000000000000000) ∧
  decode ⟨0x3F, 0xFFFFFFFFFFFFFFFF, 1, 2, 3⟩ = .ok .brk ∧
  decode ⟨0x40, 0x64, 0, 0x64, 0⟩ = .error (.reservedOpcode 0x40)

/-! ### The step, the queue and reset (10_state.md, 70_reset_and_hazards.md) -/

/-- R21, R31: in a cycle without reset, a step is the clock edge followed by `exec` of the operation that the due request decodes
to; with nothing due it is the edge alone. A request placed by `withRequest` (log entry 3) is the next one executed. -/
def Obligations.StepExecutesTheDueRequest : Prop :=
  (∀ (s : State) (r : Request) (i : Instr), s.ins.rst = false → s.edge.due = some r → decode r = .ok i →
    step s = exec i s.edge) ∧
  (∀ s : State, s.ins.rst = false → s.edge.due = none → step s = .next s.edge) ∧
  ∀ (s : State) (r : Request) (i : Instr), decode r = .ok i →
    step (s.withRequest r) = exec i (s.withRequest r).edge ∧ (s.withRequest r).edge.inflight.head? = some ⟨r, 0⟩

/-- R15, R69, R278: the machine never stops; every step of every state has a next state. -/
def Obligations.EveryStepHasANextState : Prop := ∀ s : State, ∃ t, step s = .next t

/-- R300, R301: in a cycle with `rst = 1` nothing is accepted or delivered, and after its edge the queue is empty and no response is
presented; every response delivered later answers a request accepted later. -/
def Obligations.ResetDropsRequestsInFlight : Prop :=
  ∀ s : State, s.ins.rst = true →
    s.accepting = false ∧ s.delivering = false ∧ s.reqReadyOut = false ∧ s.rspValidOut = false ∧
    ∃ t, step s = .next t ∧ t.inflight = [] ∧ t.rspValid = false ∧
      ∀ n, t.noReset n = true → deliveredOver n t <+: (acceptedOver n t).map outcome

/-- R32, R302: after reset the queue is empty, no response is presented and the invariant holds. -/
def Obligations.ResetStateMeetsTheInvariant : Prop :=
  State.reset.inflight = [] ∧ State.reset.rspValid = false ∧ State.reset.ins.rst = false ∧ State.reset.Inv

/-- R29, R31, R311: every step keeps the invariant: at most `DEPTH` requests in flight, `req_ready` only with room, waits below
`LAT(op)`, and a presented response that is `Exec` of the oldest request; in a cycle with `rst = 1` this is said of the registered
signals (log entries 20 and 30). -/
def Obligations.EveryStepKeepsTheInvariant : Prop := ∀ s t : State, s.Inv → step s = .next t → t.Inv

/-- R31: over any number of cycles without reset, the outcomes of the requests in flight at the start and accepted since are, in
order, the responses delivered followed by the outcomes of the requests still in flight. -/
def Obligations.ResponsesComeInRequestOrder : Prop :=
  ∀ (n : Nat) (s t : State), s.Inv → s.noReset n = true → RunsTo n s t →
    s.pendingOutcomes ++ (acceptedOver n s).map outcome = deliveredOver n s ++ t.pendingOutcomes

/-- R311: a request accepted with no earlier one in flight is presented, with its outcome, `LAT(op)` cycles later and not before. That it
is presented in the first cycle in which it can be is the model's choice (log entry 21). Said of the registered signals, also if that
cycle has `rst = 1` (log entries 20 and 30). -/
def Obligations.LatencyIsThatOfTheOpcode : Prop :=
  ∀ s : State, s.Inv → s.accepting = true → s.retire.inflight = [] → s.noReset (lat s.ins.req.op) = true →
    (∀ k t, 1 ≤ k → k < lat s.ins.req.op → RunsTo k s t → t.rspValid = false) ∧
    ∃ t, RunsTo (lat s.ins.req.op) s t ∧ t.presented = some (outcome s.ins.req)

/-- R31: without reset every request in flight gets its response after a finite number of cycles. That `rsp_ready` is eventually 1,
R31's proviso, comes from the idle host that follows every script (log entry 2). -/
def Obligations.EveryRequestIsAnswered : Prop :=
  ∀ s : State, s.Inv → (∀ x ∈ s.ins :: s.script, x.rst = false) →
    ∃ n, s.pendingOutcomes <+: deliveredOver n s

/-- R105, R120, R138, R193, R224, R243, R311, R313: two machines that differ in operand words and results only stay in step: the same
handshakes, the same opcodes in flight and the same waits in every cycle. What `req_ready` may depend on is log entry 7's. -/
def Obligations.TimeDoesNotDependOnOperands : Prop :=
  ∀ (n : Nat) (s u : State), s.timing = u.timing →
    ∃ s' u', RunsTo n s s' ∧ RunsTo n u u' ∧ s'.timing = u'.timing

/-- R30: a presented response that is not taken is neither withdrawn nor changed. Said of the registered signals, which keep it also if
the next cycle has `rst = 1` (log entries 20 and 30). -/
def Obligations.ResponseIsHeldUntilTaken : Prop :=
  ∀ s : State, s.rspValid = true → s.ins.rspReady = false → s.ins.rst = false →
    ∃ t, step s = .next t ∧ t.rspValid = true ∧ t.rspStatus = s.rspStatus ∧ t.rspCause = s.rspCause ∧
      t.rspRLo = s.rspRLo ∧ t.rspRHi = s.rspRHi ∧ t.presented = s.presented

/-- R302: `req_ready` becomes 1 within a finite number of cycles, after a reset cycle of any state and from State.reset itself, whatever
the host drives from then on but a further reset. How many cycles is free (log entry 8). -/
def Obligations.ReadyComesAfterReset : Prop :=
  (∀ s : State, s.ins.rst = true → (∀ x ∈ s.script, x.rst = false) →
    ∃ n t, 1 ≤ n ∧ RunsTo n s t ∧ t.reqReady = true) ∧
  ∀ (y : Inputs) (ys : List Inputs), (∀ x ∈ y :: ys, x.rst = false) →
    ∃ n t, RunsTo n { State.reset with ins := y, script := ys } t ∧ t.reqReady = true

/-- R15, R20, R31: every operation, with any operands and in any state, completes: it presents its outcome on the response signals and
changes nothing else. -/
def Obligations.EveryOperationPresentsItsOutcome : Prop :=
  ∀ (i : Instr) (s : State), ∃ status cause lo hi,
    exec i s = .next { s with rspValid := true, rspStatus := status, rspCause := cause, rspRLo := lo, rspRHi := hi } ∧
    readResponse status cause lo hi = some (resultOf i)

/-- R271, R277: which operations can abort, and with which cause code; no other code is ever presented. -/
def Obligations.AbortCausesByFamily : Prop :=
  ∀ (i : Instr) (s t : State), exec i s = .next t → t.rspStatus = 1 →
    (t.rspCause = 1 ∧ ∃ a b, b = 0 ∧ (i = .divs a b ∨ i = .divu a b ∨ i = .mods a b ∨ i = .modu a b)) ∨
    (t.rspCause = 2 ∧ ∃ a c, 128 ≤ c.toNat ∧ (i = .lshl a c ∨ i = .lshr a c ∨ i = .ashl a c ∨ i = .ashr a c)) ∨
    (t.rspCause = 3 ∧ ∃ a, i = .qtoi32 a ∨ i = .qtoi64 a ∨ i = .qtou32 a ∨ i = .qtou64 a)

/-! ### Multiply (40_wide_multiply.md) -/

/-- R100, R101: MUL answers the low 128 bits of the product, of the unsigned and of the signed readings alike. The signed half is R101,
which the spec derives from R100 and R13. -/
def Obligations.MulAnswersTheLowHalf : Prop :=
  (∀ w0 w1 w2 w3 : Word, decode ⟨0x00, w0, w1, w2, w3⟩ = .ok (.mul (w1 ++ w0) (w3 ++ w2))) ∧
  ∀ (a b : Wide) (s : State),
    AnswersWide (.mul a b) s (BitVec.ofNat 128 (a.toNat * b.toNat)) ∧
    AnswersWide (.mul a b) s (BitVec.ofInt 128 (a.toInt * b.toInt))

/-- R102: the integer laws of MUL. -/
def Obligations.MulLaws : Prop :=
  ∀ a b c : Wide,
    patternOf (.mul a b) = patternOf (.mul b a) ∧
    (∃ ab bc, patternOf (.mul a b) = some ab ∧ patternOf (.mul b c) = some bc ∧
      patternOf (.mul ab c) = patternOf (.mul a bc)) ∧
    (∃ ab ac, patternOf (.mul a b) = some ab ∧ patternOf (.mul a c) = some ac ∧
      patternOf (.mul a (b + c)) = some (ab + ac)) ∧
    patternOf (.mul a 1) = some a ∧ patternOf (.mul a 0) = some 0 ∧
    patternOf (.mul a (BitVec.allOnes 128)) = some (-a) ∧
    ∀ k : Word, k.toNat ≤ 127 → patternOf (.mul a (BitVec.ofNat 128 (2 ^ k.toNat))) = patternOf (.lshl a k)

/-! ### Divide and modulo (41_wide_divide_modulo.md) -/

/-- R110, R272: DIVS, DIVU, MODS and MODU abort with cause 1 exactly when the divisor is zero, whatever the dividend; QDIV never
does. -/
def Obligations.ZeroDivisorAborts : Prop :=
  (∀ (a b : Wide) (s : State), ∀ i ∈ [Instr.divs a b, .divu a b, .mods a b, .modu a b],
    (b = 0 → AnswersAbort i s 1) ∧ (b ≠ 0 → ∃ x, AnswersWide i s x)) ∧
  ∀ (a b : Quad) (s : State), ∃ x, AnswersWide (.qdiv a b) s x

/-- R111, R113: DIVU and MODU answer the unsigned quotient and remainder. -/
def Obligations.UnsignedQuotientAndRemainder : Prop :=
  (∀ w0 w1 w2 w3 : Word, decode ⟨0x02, w0, w1, w2, w3⟩ = .ok (.divu (w1 ++ w0) (w3 ++ w2)) ∧
    decode ⟨0x04, w0, w1, w2, w3⟩ = .ok (.modu (w1 ++ w0) (w3 ++ w2))) ∧
  ∀ (a b : Wide) (s : State),
    (b = 0 → AnswersAbort (.divu a b) s 1 ∧ AnswersAbort (.modu a b) s 1) ∧
    (b ≠ 0 → AnswersWide (.divu a b) s (BitVec.ofNat 128 (a.toNat / b.toNat)) ∧
      AnswersWide (.modu a b) s (BitVec.ofNat 128 (a.toNat % b.toNat)))

/-- R112, R114: DIVS answers the signed quotient rounded toward zero, MODS the remainder with the sign of the dividend, both
narrowed by `wrap128`. That the remainder takes the sign of the dividend R114 itself marks as derived from R112 and R115. -/
def Obligations.SignedQuotientAndRemainder : Prop :=
  (∀ w0 w1 w2 w3 : Word, decode ⟨0x01, w0, w1, w2, w3⟩ = .ok (.divs (w1 ++ w0) (w3 ++ w2)) ∧
    decode ⟨0x03, w0, w1, w2, w3⟩ = .ok (.mods (w1 ++ w0) (w3 ++ w2))) ∧
  ∀ (a b : Wide) (s : State),
    (b = 0 → AnswersAbort (.divs a b) s 1 ∧ AnswersAbort (.mods a b) s 1) ∧
    (b ≠ 0 → AnswersWide (.divs a b) s (BitVec.ofInt 128 (a.toInt.tdiv b.toInt)) ∧
      AnswersWide (.mods a b) s (BitVec.ofInt 128 (a.toInt.tmod b.toInt)))

/-- R115: quotient times divisor plus remainder is the dividend, signed and unsigned, for every non-zero divisor; over the integers
in every case but -2^127 by -1. -/
def Obligations.DivisionIdentity : Prop :=
  ∀ a b : Wide, b ≠ 0 →
    (∃ q r p, patternOf (.divu a b) = some q ∧ patternOf (.modu a b) = some r ∧ patternOf (.mul q b) = some p ∧
      p + r = a ∧ q.toNat * b.toNat + r.toNat = a.toNat) ∧
    ∃ q r p, patternOf (.divs a b) = some q ∧ patternOf (.mods a b) = some r ∧ patternOf (.mul q b) = some p ∧
      p + r = a ∧ (¬(a.toInt = -2 ^ 127 ∧ b.toInt = -1) → q.toInt * b.toInt + r.toInt = a.toInt)

/-- R117: -2^127 by -1 wraps: DIVS answers the pattern of -2^127 and MODS 0, and neither aborts. -/
def Obligations.MinimumByMinusOneWraps : Prop :=
  ∀ s : State,
    AnswersWide (.divs 0x80000000000000000000000000000000 0xFFFFFFFFFFFFFFFFFFFFFFFFFFFFFFFF) s
      0x80000000000000000000000000000000 ∧
    AnswersWide (.mods 0x80000000000000000000000000000000 0xFFFFFFFFFFFFFFFFFFFFFFFFFFFFFFFF) s 0

/-! ### Shifts (42_wide_shifts.md) -/

/-- R130, R131, R133, R273: LSHL and ASHL answer the pattern shifted left, and abort with cause 2 for a count of 128 or more, all 64
bits of the count taken. -/
def Obligations.LeftShiftsAnswer : Prop :=
  (∀ w0 w1 w2 w3 : Word, decode ⟨0x05, w0, w1, w2, w3⟩ = .ok (.lshl (w1 ++ w0) w2) ∧
    decode ⟨0x07, w0, w1, w2, w3⟩ = .ok (.ashl (w1 ++ w0) w2)) ∧
  ∀ (a : Wide) (c : Word) (s : State),
    (c.toNat < 128 → AnswersWide (.lshl a c) s (a <<< c.toNat) ∧ AnswersWide (.ashl a c) s (a <<< c.toNat)) ∧
    (128 ≤ c.toNat → AnswersAbort (.lshl a c) s 2 ∧ AnswersAbort (.ashl a c) s 2)

/-- R130, R132, R134, R273: LSHR answers the pattern shifted right with zeros entering, ASHR with copies of bit 127 entering; both abort
with cause 2 for a count of 128 or more. -/
def Obligations.RightShiftsAnswer : Prop :=
  (∀ w0 w1 w2 w3 : Word, decode ⟨0x06, w0, w1, w2, w3⟩ = .ok (.lshr (w1 ++ w0) w2) ∧
    decode ⟨0x08, w0, w1, w2, w3⟩ = .ok (.ashr (w1 ++ w0) w2)) ∧
  ∀ (a : Wide) (c : Word) (s : State),
    (c.toNat < 128 → AnswersWide (.lshr a c) s (a >>> c.toNat) ∧
      ∃ x : Wide, AnswersWide (.ashr a c) s x ∧
        ∀ i, i < 128 → x.getLsbD i = if i + c.toNat ≤ 127 then a.getLsbD (i + c.toNat) else a.getLsbD 127) ∧
    (128 ≤ c.toNat → AnswersAbort (.lshr a c) s 2 ∧ AnswersAbort (.ashr a c) s 2)

/-- R135: shifting left then right clears the top bits, shifting right then left the low bits; a left shift is a product and a right
shift a quotient by a power of two; shifts compose while the total stays in range. -/
def Obligations.ShiftLaws : Prop :=
  ∀ (a : Wide) (c d : Word), c.toNat < 128 →
    (∃ l r q, patternOf (.lshl a c) = some l ∧ patternOf (.lshr a c) = some r ∧ patternOf (.ashr a c) = some q ∧
      patternOf (.lshr l c) = some (BitVec.ofNat 128 (a.toNat % 2 ^ (128 - c.toNat))) ∧
      patternOf (.lshl r c) = some (a - BitVec.ofNat 128 (a.toNat % 2 ^ c.toNat)) ∧
      (c.toNat + d.toNat ≤ 127 → patternOf (.lshl l d) = patternOf (.lshl a (c + d)) ∧
        patternOf (.lshr r d) = patternOf (.lshr a (c + d)) ∧ patternOf (.ashr q d) = patternOf (.ashr a (c + d)))) ∧
    patternOf (.lshl a c) = patternOf (.mul a (BitVec.ofNat 128 (2 ^ c.toNat))) ∧
    patternOf (.lshr a c) = patternOf (.divu a (BitVec.ofNat 128 (2 ^ c.toNat)))

/-! ### Reference datapaths (R103, R104, R118, R119, R136, R137, R190 to R192) -/

/-- R103, R104: the partial-product and the bit-serial multiplier give MUL's result for all operands. -/
def Obligations.MultiplierDatapathsAgree : Prop :=
  ∀ a b : Wide, patternOf (.mul a b) = some (mulLimbs a b) ∧ patternOf (.mul a b) = some (mulSerial a b)

/-- R118, R119: the restoring divider gives quotient and remainder of any two 128-bit numbers with a non-zero divisor, and on it the
signed operations give the results of DIVS and MODS. -/
def Obligations.RestoringDividerAgrees : Prop :=
  (∀ n d : Nat, n < 2 ^ 128 → 0 < d → restoring n d = (n / d, n % d)) ∧
  ∀ a b : Wide, b ≠ 0 → patternOf (.divs a b) = some (divsRestoring a b) ∧ patternOf (.mods a b) = some (modsRestoring a b)

/-- R136: the seven-stage barrel shifter gives the outcome of all four shifts for every pattern and count, the aborts included. -/
def Obligations.BarrelShifterAgrees : Prop :=
  ∀ (k : ShiftKind) (a : Wide) (c : Word), resultOf (k.instr a c) = barrelShift k a c

/-- R137: the word-level shift table gives the results of the shifts for every valid count. -/
def Obligations.WordLevelShiftsAgree : Prop :=
  ∀ (lo hi c : Word), c.toNat < 128 →
    resultOf (.lshl (hi ++ lo) c) = .ok (wordShiftLeft lo hi c.toNat).1 (wordShiftLeft lo hi c.toNat).2 ∧
    resultOf (.ashl (hi ++ lo) c) = .ok (wordShiftLeft lo hi c.toNat).1 (wordShiftLeft lo hi c.toNat).2 ∧
    resultOf (.lshr (hi ++ lo) c) =
      .ok (wordShiftRightLogical lo hi c.toNat).1 (wordShiftRightLogical lo hi c.toNat).2 ∧
    resultOf (.ashr (hi ++ lo) c) =
      .ok (wordShiftRightArithmetic lo hi c.toNat).1 (wordShiftRightArithmetic lo hi c.toNat).2

/-- R190: the guard/round/sticky adder gives QADD's pattern for all finite operands. -/
def Obligations.GuardRoundStickyAdderAgrees : Prop :=
  ∀ a b : Quad, finiteBits a → finiteBits b → patternOf (.qadd a b) = some (grsAdd a b)

/-- R191, R192: the partial-product significand multiplier gives QMUL's pattern for all finite operands, and the 116-step restoring
divider QDIV's for all finite non-zero ones. -/
def Obligations.QuadMultiplierAndDividerAgree : Prop :=
  ∀ a b : Quad, finiteBits a → finiteBits b →
    patternOf (.qmul a b) = some (quadMulDatapath a b) ∧
    (¬zeroBits a → ¬zeroBits b → patternOf (.qdiv a b) = some (quadDivDatapath a b))

/-! ### Quad format and rounding (43_quad_format.md) -/

/-- R150, R151: a quad is in exactly one class, and the class is read off its exponent and fraction fields. -/
def Obligations.ClassIsReadFromTheFields : Prop :=
  ∀ x : Quad,
    (isNaN x = true ↔ nanBits x) ∧ (isInf x = true ↔ infBits x) ∧ (isZero x = true ↔ zeroBits x) ∧
    (isFinite x = true ↔ finiteBits x) ∧
    (classQ x = .subnormal ↔ x.extractLsb' 112 15 = 0#15 ∧ x.extractLsb' 0 112 ≠ 0#112) ∧
    (classQ x = .normal ↔ x.extractLsb' 112 15 ≠ 0#15 ∧ x.extractLsb' 112 15 ≠ 0x7FFF#15)

/-- R157: rounding by integer operations is the rounding of the exact magnitude, for every sign, integer and exponent. -/
def Obligations.IntegerRoundingIsExactRounding : Prop :=
  ∀ F ∈ threeFormats, ∀ (s : Bool) (M : Nat) (x : Int), F.roundPackInt s M x = F.round s (M * (2 : ℚ) ^ x)

/-- R158: all bits below `K` may be replaced by one sticky bit when `M` has at least `P + 3` bits. The rest `t`, a real number in R158,
is rational here (log entry 16, DEDUCED). -/
def Obligations.StickyBitKeepsTheRounding : Prop :=
  ∀ F ∈ threeFormats, ∀ (s : Bool) (K : Nat) (t : ℚ) (y : Int), 0 ≤ t → t < 1 →
    F.P + 3 ≤ bitlen (2 * K + if t ≠ 0 then 1 else 0) →
    F.round s ((K + t) * (2 : ℚ) ^ y) = F.roundPackInt s (2 * K + if t ≠ 0 then 1 else 0) (y - 1)

/-- R156, R163: below the overflow bound the rounding is the nearest representable value, and of two equally near the one with an even
last bit; it has the given sign, also when it is a zero. Magnitudes, real numbers in R156, are rational here (log entry 16, DEDUCED). -/
def Obligations.RoundingIsToNearestEven : Prop :=
  ∀ F ∈ threeFormats, ∀ (s : Bool) (v : ℚ), 0 ≤ v → v < overflowBound F →
    F.sign (F.round s v) = s ∧ ∀ y : Nat, y < 2 ^ F.width → F.exponent y ≠ F.expOnes →
      |F.value (F.round s v) - (if s then -v else v)| ≤ |F.value y - (if s then -v else v)| ∧
      (|F.value (F.round s v) - (if s then -v else v)| = |F.value y - (if s then -v else v)| →
        F.value y ≠ F.value (F.round s v) → F.round s v % 2 = 0)

/-- R165: a magnitude rounds to the infinity of its sign exactly from the overflow bound on. Magnitudes are rational here (log entry 16,
DEDUCED). -/
def Obligations.OverflowStartsAtTheBound : Prop :=
  ∀ F ∈ threeFormats, ∀ (s : Bool) (v : ℚ), 0 ≤ v →
    (overflowBound F ≤ v → F.round s v = F.ofFields s F.expOnes 0) ∧
    (v < overflowBound F → F.exponent (F.round s v) ≠ F.expOnes)

/-! ### Quad arithmetic (44_quad_arith.md) -/

/-- R162: with a NaN operand QADD, QSUB, QMUL and QDIV answer the first NaN operand with its quiet bit set and everything else kept;
QSUB does not flip the sign of a NaN. -/
def Obligations.NaNOperandsPropagate : Prop :=
  ∀ (a b : Quad) (s : State), ∀ i ∈ [Instr.qadd a b, .qsub a b, .qmul a b, .qdiv a b],
    (nanBits a → AnswersWide i s (withQuietBit a)) ∧
    (¬nanBits a → nanBits b → AnswersWide i s (withQuietBit b))

/-- R189: each of the four operations answers a NaN when an operand is one, and otherwise in exactly the invalid cases. -/
def Obligations.NaNResultsAreExactlyTheInvalidOnes : Prop :=
  ∀ a b : Quad, ∃ add sub mul div : Quad,
    patternOf (.qadd a b) = some add ∧ patternOf (.qsub a b) = some sub ∧
    patternOf (.qmul a b) = some mul ∧ patternOf (.qdiv a b) = some div ∧
    ((nanBits a ∨ nanBits b) → nanBits add ∧ nanBits sub ∧ nanBits mul ∧ nanBits div) ∧
    (¬nanBits a → ¬nanBits b →
      (nanBits add ↔ infBits a ∧ infBits b ∧ a.msb ≠ b.msb) ∧
      (nanBits sub ↔ infBits a ∧ infBits b ∧ a.msb = b.msb) ∧
      (nanBits mul ↔ (zeroBits a ∧ infBits b) ∨ (infBits a ∧ zeroBits b)) ∧
      (nanBits div ↔ (zeroBits a ∧ zeroBits b) ∨ (infBits a ∧ infBits b)))

/-- R163, R181, R185: QADD of operands that are no NaN: infinities; and the exact sum of finite operands rounded once, an exact zero sum
being -0 when both operands are negative and +0 otherwise. The NaN of opposite infinities is that of R161 (log entry 14). -/
def Obligations.QuadSumIsRoundedOnce : Prop :=
  ∀ (a b : Quad) (s : State), ¬nanBits a → ¬nanBits b →
    (infBits a → infBits b → AnswersWide (.qadd a b) s (if a.msb = b.msb then a else defaultNaN)) ∧
    (infBits a → finiteBits b → AnswersWide (.qadd a b) s a) ∧
    (finiteBits a → infBits b → AnswersWide (.qadd a b) s b) ∧
    (finiteBits a → finiteBits b → AnswersWide (.qadd a b) s
      (if valueQ a + valueQ b = 0 then signedZero (a.msb && b.msb)
       else roundQ (decide (valueQ a + valueQ b < 0)) |valueQ a + valueQ b|))

/-- R163, R182, R185: QSUB of operands that are no NaN: infinities; and the exact difference of finite operands rounded once, an exact
zero difference being -0 for `-0 - +0` only. The NaN of equal infinities is that of R161 (log entry 14). -/
def Obligations.QuadDifferenceIsRoundedOnce : Prop :=
  ∀ (a b : Quad) (s : State), ¬nanBits a → ¬nanBits b →
    (infBits a → infBits b → AnswersWide (.qsub a b) s (if a.msb = b.msb then defaultNaN else a)) ∧
    (infBits a → finiteBits b → AnswersWide (.qsub a b) s a) ∧
    (finiteBits a → infBits b → AnswersWide (.qsub a b) s (signedInf !b.msb)) ∧
    (finiteBits a → finiteBits b → AnswersWide (.qsub a b) s
      (if valueQ a - valueQ b = 0 then signedZero (a.msb && !b.msb)
       else roundQ (decide (valueQ a - valueQ b < 0)) |valueQ a - valueQ b|))

/-- R163, R183, R186: QMUL of operands that are no NaN: infinity by zero is the default NaN of R161 (log entry 14), other infinite
operands give an infinity; finite operands the exact product rounded once, its sign the xor of the signs, zero results included. -/
def Obligations.QuadProductIsRoundedOnce : Prop :=
  ∀ (a b : Quad) (s : State), ¬nanBits a → ¬nanBits b →
    ((infBits a ∧ zeroBits b) ∨ (zeroBits a ∧ infBits b) → AnswersWide (.qmul a b) s defaultNaN) ∧
    ((infBits a ∧ ¬zeroBits b) ∨ (¬zeroBits a ∧ infBits b) →
      AnswersWide (.qmul a b) s (signedInf (a.msb.xor b.msb))) ∧
    (finiteBits a → finiteBits b →
      AnswersWide (.qmul a b) s (roundQ (a.msb.xor b.msb) |valueQ a * valueQ b|))

/-- R163, R184, R187: QDIV of operands that are no NaN: infinities, zero divisors and zero dividends; finite non-zero operands the exact
quotient rounded once; the sign of every result but the default NaN, that of R161 (log entry 14), is the xor of the signs. -/
def Obligations.QuadQuotientIsRoundedOnce : Prop :=
  ∀ (a b : Quad) (s : State), ¬nanBits a → ¬nanBits b →
    ((infBits a ∧ infBits b) ∨ (zeroBits a ∧ zeroBits b) → AnswersWide (.qdiv a b) s defaultNaN) ∧
    ((infBits a ∧ finiteBits b) ∨ (finiteBits a ∧ ¬zeroBits a ∧ zeroBits b) →
      AnswersWide (.qdiv a b) s (signedInf (a.msb.xor b.msb))) ∧
    ((finiteBits a ∧ infBits b) ∨ (zeroBits a ∧ finiteBits b ∧ ¬zeroBits b) →
      AnswersWide (.qdiv a b) s (signedZero (a.msb.xor b.msb))) ∧
    (finiteBits a → finiteBits b → ¬zeroBits a → ¬zeroBits b →
      AnswersWide (.qdiv a b) s (roundQ (a.msb.xor b.msb) (|valueQ a| / |valueQ b|)))

/-- R188: QADD and QMUL commute on operands that are no NaN, QSUB is QADD with the sign bit flipped, 1 is neutral for QMUL and QDIV (a NaN
is quieted), and neither addition nor multiplication is associative. -/
def Obligations.QuadArithmeticLaws : Prop :=
  (∀ a b : Quad, ¬nanBits a → ¬nanBits b →
    patternOf (.qadd a b) = patternOf (.qadd b a) ∧ patternOf (.qmul a b) = patternOf (.qmul b a) ∧
    patternOf (.qsub a b) = patternOf (.qadd a (b ^^^ (1#1 ++ 0#127))) ∧
    patternOf (.qmul a 0x3FFF0000000000000000000000000000) = some a ∧
    patternOf (.qdiv a 0x3FFF0000000000000000000000000000) = some a) ∧
  (∀ a : Quad, nanBits a →
    patternOf (.qmul a 0x3FFF0000000000000000000000000000) = some (withQuietBit a) ∧
    patternOf (.qdiv a 0x3FFF0000000000000000000000000000) = some (withQuietBit a)) ∧
  (∃ a b c ab bc : Quad, patternOf (.qadd a b) = some ab ∧ patternOf (.qadd b c) = some bc ∧
    patternOf (.qadd ab c) ≠ patternOf (.qadd a bc)) ∧
  ∃ a b c ab bc : Quad, patternOf (.qmul a b) = some ab ∧ patternOf (.qmul b c) = some bc ∧
    patternOf (.qmul ab c) ≠ patternOf (.qmul a bc)

/-! ### Quad comparisons (45_quad_compare.md) -/

/-- R210, R211, R212: the seven ordering operations answer -1, 0 or +1 as the value of A is below, equal to or above that of B, zeros of
either sign being equal and the infinities outermost. -/
def Obligations.ComparisonsFollowTheOrderOfValues : Prop :=
  ∀ (a b : Quad) (s : State), ¬nanBits a → ¬nanBits b →
    ∀ i ∈ [Instr.qeq a b, .qne a b, .qge a b, .qgt a b, .qle a b, .qlt a b, .qcmp a b],
      AnswersWord i s (threeWay a b)

/-- R212, R213 to R219, R222: with a NaN operand each of the seven answers its sentinel, the value that R222 gives it; that the
sentinels are these and no parameters is log entry 13's. -/
def Obligations.UnorderedOperandsAnswerTheSentinel : Prop :=
  ∀ (a b : Quad) (s : State), nanBits a ∨ nanBits b →
    (∀ i ∈ [Instr.qeq a b, .qne a b, .qle a b, .qlt a b, .qcmp a b], AnswersWord i s 1) ∧
    ∀ i ∈ [Instr.qge a b, .qgt a b], AnswersWord i s (-1)

/-- R220: QUNORD answers 1 when an operand is a NaN, quiet or signaling, and 0 otherwise. -/
def Obligations.UnordTellsNaNs : Prop :=
  (∀ w0 w1 w2 w3 : Word, decode ⟨0x27, w0, w1, w2, w3⟩ = .ok (.qunord (w1 ++ w0) (w3 ++ w2))) ∧
  ∀ (a b : Quad) (s : State),
    (nanBits a ∨ nanBits b → AnswersWord (.qunord a b) s 1) ∧
    (¬nanBits a → ¬nanBits b → AnswersWord (.qunord a b) s 0)

/-- R210 to R212, R222, R223: the host's tests of R222 for `<`, `=` and `>` hold exactly when no operand is a NaN and the values are in
that order. They exclude each other, exactly one holds when the operands are ordered and none when they are not, and `<=`, `>=` and
`!=` are what they should be. That the sentinels are the values of R222 and no parameters is log entry 13's. -/
def Obligations.HostTestsAreTheOrderPredicates : Prop :=
  ∀ a b : Quad, ∃ eq ne ge gt le lt : Int,
    scalarOf (.qeq a b) = some eq ∧ scalarOf (.qne a b) = some ne ∧ scalarOf (.qge a b) = some ge ∧
    scalarOf (.qgt a b) = some gt ∧ scalarOf (.qle a b) = some le ∧ scalarOf (.qlt a b) = some lt ∧
    (lt < 0 ↔ ¬nanBits a ∧ ¬nanBits b ∧ rankQ a < rankQ b) ∧
    (eq = 0 ↔ ¬nanBits a ∧ ¬nanBits b ∧ rankQ a = rankQ b) ∧
    (0 < gt ↔ ¬nanBits a ∧ ¬nanBits b ∧ rankQ b < rankQ a) ∧
    ¬(lt < 0 ∧ eq = 0) ∧ ¬(lt < 0 ∧ 0 < gt) ∧ ¬(eq = 0 ∧ 0 < gt) ∧
    ((lt < 0 ∨ eq = 0 ∨ 0 < gt) ↔ ¬nanBits a ∧ ¬nanBits b) ∧
    (le ≤ 0 ↔ lt < 0 ∨ eq = 0) ∧ (0 ≤ ge ↔ 0 < gt ∨ eq = 0) ∧ (ne ≠ 0 ↔ ¬eq = 0)

/-! ### Quad conversions (46_quad_convert.md) -/

/-- R230, R231, R232: XSQ and XDQ are exact: a finite single or double becomes the finite quad of the same value and sign; an infinity or a
NaN keeps its sign and its left-aligned fraction. -/
def Obligations.ExtendIsExact : Prop :=
  ∀ s : State,
    (∀ d : Double,
      (d.extractLsb' 52 11 ≠ 0x7FF#11 → ∃ q : Quad, AnswersWide (.xdq d) s q ∧ finiteBits q ∧
        valueQ q = formatD.value d.toNat ∧ q.msb = d.msb) ∧
      (d.extractLsb' 52 11 = 0x7FF#11 →
        AnswersWide (.xdq d) s (d.extractLsb' 63 1 ++ 0x7FFF#15 ++ d.extractLsb' 0 52 ++ 0#60))) ∧
    ∀ f : Single,
      (f.extractLsb' 23 8 ≠ 0xFF#8 → ∃ q : Quad, AnswersWide (.xsq f) s q ∧ finiteBits q ∧
        valueQ q = formatS.value f.toNat ∧ q.msb = f.msb) ∧
      (f.extractLsb' 23 8 = 0xFF#8 →
        AnswersWide (.xsq f) s (f.extractLsb' 31 1 ++ 0x7FFF#15 ++ f.extractLsb' 0 23 ++ 0#89))

/-- R233, R234, R235: TQD and TQS round the value of a finite quad once to the narrower format; an infinity stays one; a NaN keeps its
sign and the top of its fraction and is made quiet. -/
def Obligations.TruncateRoundsOnce : Prop :=
  ∀ (a : Quad) (s : State),
    (finiteBits a →
      AnswersWord (.tqd a) s (BitVec.ofNat 64 (formatD.round a.msb |valueQ a|)) ∧
      AnswersWord (.tqs a) s ((BitVec.ofNat 32 (formatS.round a.msb |valueQ a|)).zeroExtend 64)) ∧
    (infBits a →
      AnswersWord (.tqd a) s (a.extractLsb' 127 1 ++ 0x7FF#11 ++ 0#52) ∧
      AnswersWord (.tqs a) s ((a.extractLsb' 127 1 ++ 0xFF#8 ++ 0#23 : BitVec 32).zeroExtend 64)) ∧
    (nanBits a →
      AnswersWord (.tqd a) s (a.extractLsb' 127 1 ++ 0x7FF#11 ++ (a.extractLsb' 60 52 ||| 1#1 ++ 0#51)) ∧
      AnswersWord (.tqs a) s
        ((a.extractLsb' 127 1 ++ 0xFF#8 ++ (a.extractLsb' 89 23 ||| 1#1 ++ 0#22) : BitVec 32).zeroExtend 64))

/-- R236: truncating an extended double or single gives it back, every pattern that is no NaN; a NaN comes back with its quiet bit set. -/
def Obligations.TruncateUndoesExtend : Prop :=
  (∀ d : Double, ∃ q, patternOf (.xdq d) = some q ∧
    (¬(d.extractLsb' 52 11 = 0x7FF#11 ∧ d.extractLsb' 0 52 ≠ 0#52) → resultOf (.tqd q) = .ok d 0) ∧
    (d.extractLsb' 52 11 = 0x7FF#11 → d.extractLsb' 0 52 ≠ 0#52 →
      resultOf (.tqd q) = .ok (d ||| BitVec.ofNat 64 (2 ^ 51)) 0)) ∧
  ∀ f : Single, ∃ q, patternOf (.xsq f) = some q ∧
    (¬(f.extractLsb' 23 8 = 0xFF#8 ∧ f.extractLsb' 0 23 ≠ 0#23) → resultOf (.tqs q) = .ok (f.zeroExtend 64) 0) ∧
    (f.extractLsb' 23 8 = 0xFF#8 → f.extractLsb' 0 23 ≠ 0#23 →
      resultOf (.tqs q) = .ok ((f ||| BitVec.ofNat 32 (2 ^ 22)).zeroExtend 64) 0)

/-- R237 to R241: a finite quad whose value truncates toward zero to an integer in the destination's range is answered by that integer in
the destination's result form. -/
def Obligations.ConversionTruncatesTowardZero : Prop :=
  ∀ (a : Quad) (s : State), finiteBits a →
    (-2 ^ 31 ≤ towardZero (valueQ a) → towardZero (valueQ a) ≤ 2 ^ 31 - 1 →
      AnswersWord (.qtoi32 a) s ((BitVec.ofInt 32 (towardZero (valueQ a))).signExtend 64)) ∧
    (-2 ^ 63 ≤ towardZero (valueQ a) → towardZero (valueQ a) ≤ 2 ^ 63 - 1 →
      AnswersWord (.qtoi64 a) s (BitVec.ofInt 64 (towardZero (valueQ a)))) ∧
    (0 ≤ towardZero (valueQ a) → towardZero (valueQ a) ≤ 2 ^ 32 - 1 →
      AnswersWord (.qtou32 a) s (BitVec.ofInt 64 (towardZero (valueQ a)))) ∧
    (0 ≤ towardZero (valueQ a) → towardZero (valueQ a) ≤ 2 ^ 64 - 1 →
      AnswersWord (.qtou64 a) s (BitVec.ofInt 64 (towardZero (valueQ a))))

/-- R242, R276: the quad-to-integer operations abort with cause 3 exactly on NaNs, infinities and values outside the ranges of R242; TQD and
TQS never abort. -/
def Obligations.ConversionAbortsOutOfRange : Prop :=
  ∀ (a : Quad) (s : State),
    (AnswersAbort (.qtoi32 a) s 3 ↔ ¬(finiteBits a ∧ -2 ^ 31 - 1 < valueQ a ∧ valueQ a < 2 ^ 31)) ∧
    (AnswersAbort (.qtoi64 a) s 3 ↔ ¬(finiteBits a ∧ -2 ^ 63 - 1 < valueQ a ∧ valueQ a < 2 ^ 63)) ∧
    (AnswersAbort (.qtou32 a) s 3 ↔ ¬(finiteBits a ∧ -1 < valueQ a ∧ valueQ a < 2 ^ 32)) ∧
    (AnswersAbort (.qtou64 a) s 3 ↔ ¬(finiteBits a ∧ -1 < valueQ a ∧ valueQ a < 2 ^ 64)) ∧
    (∃ w, AnswersWord (.tqd a) s w) ∧ ∃ w, AnswersWord (.tqs a) s w

/-! ### The diagnostic hook (47_diagnostic.md) -/

/-- R260: BRK answers two zero words whatever the operand words, and changes nothing else. -/
def Obligations.BrkAnswersZeroWords : Prop :=
  (∀ w0 w1 w2 w3 : Word, decode ⟨0x3F, w0, w1, w2, w3⟩ = .ok .brk) ∧ ∀ s : State, AnswersOk .brk s 0 0
end

