-- ==== Sys2Proof/Laws/Decode.lean ====
section
/-! SUPPORT. Lemmas about word pairs, raw requests and the decoder. -/

namespace Sys2Proof

/-- The bits of a pair: the low word's, then the high word's. -/
theorem getLsbD_pair (hi lo : Word) (i : Nat) :
    (pair hi lo).getLsbD i = if i < 64 then lo.getLsbD i else hi.getLsbD (i - 64) := by
  have h := BitVec.getLsbD_append (x := hi) (y := lo) (i := i)
  by_cases hi' : i < 64 <;> simpa [pair, hi'] using h

@[simp] theorem loWord_pair (hi lo : Word) : loWord (pair hi lo) = lo := by
  unfold loWord
  ext i hi'
  simp [getLsbD_pair, hi']

@[simp] theorem hiWord_pair (hi lo : Word) : hiWord (pair hi lo) = hi := by
  unfold hiWord
  ext i hi'
  simp [getLsbD_pair, BitVec.getLsbD_eq_getElem hi']

@[simp] theorem pair_hiWord_loWord (x : Wide) : pair (hiWord x) (loWord x) = x := by
  apply BitVec.eq_of_getLsbD_eq
  intro i hi'
  rw [getLsbD_pair]
  split
  · simp_all [loWord]
  · have h : 64 + (i - 64) = i := by omega
    have h' : i - 64 < 64 := by omega
    simp [hiWord, h, h']

/-- A wide value is its two words. -/
theorem pair_surjective (x : Wide) : ∃ hi lo, x = pair hi lo := ⟨hiWord x, loWord x, by simp⟩

@[simp] theorem rawTwo_operandA (op : OpByte) (a b : Wide) : (rawTwo op a b).operandA = a := by
  simp [rawTwo, Request.operandA]

@[simp] theorem rawTwo_operandB (op : OpByte) (a b : Wide) : (rawTwo op a b).operandB = b := by
  simp [rawTwo, Request.operandB]

@[simp] theorem rawCount_operandA (op : OpByte) (a : Wide) (c : Word) : (rawCount op a c).operandA = a := by
  simp [rawCount, Request.operandA]

@[simp] theorem rawCount_count (op : OpByte) (a : Wide) (c : Word) : (rawCount op a c).count = c := rfl

@[simp] theorem rawOne_operandA (op : OpByte) (a : Wide) : (rawOne op a).operandA = a := by
  simp [rawOne, Request.operandA]

@[simp] theorem rawWord_double (op : OpByte) (w : Word) : (rawWord op w).double = w := rfl

/-- The low half of a single's word is the single. -/
@[simp] theorem rawWord_single (op : OpByte) (f : Single) : (rawWord op (f.zeroExtend 64)).single = f := by
  apply BitVec.eq_of_getLsbD_eq
  intro i hi
  have h : i < 64 := by omega
  simp [rawWord, Request.single, hi, h]

/-- A decoding error is always that of the request's own opcode. -/
theorem decode_error_op {r : Request} {e : DecodeError} (h : decode r = .error e) : e = .reservedOpcode r.op := by
  unfold decode at h
  split at h <;> simp_all

end Sys2Proof
end

