-- ==== Sys2Proof/Laws/Format.lean ====
section
/-! SUPPORT. Bounds of the fields and of `bitlen`, and which classes exclude each other. -/

namespace Sys2Proof.Machine

theorem Format.fraction_lt (F : Format) (x : Nat) : F.fraction x < 2 ^ F.T := Nat.mod_lt _ (by positivity)

theorem Format.exponent_lt (F : Format) (x : Nat) : F.exponent x < 2 ^ F.W := Nat.mod_lt _ (by positivity)

/-- R14: `2^(L-1) <= M < 2^L` for `L = bitlen(M)`. -/
theorem bitlen_bounds {n : Nat} (h : n ≠ 0) : 2 ^ (bitlen n - 1) ≤ n ∧ n < 2 ^ bitlen n := by
  simp only [bitlen, h, if_false, Nat.add_sub_cancel]
  exact ⟨Nat.log2_self_le h, Nat.lt_log2_self⟩

@[simp] theorem bitlen_zero : bitlen 0 = 0 := rfl

/-- A NaN is not an infinity. -/
theorem isInf_of_isNaN {x : Quad} (h : isNaN x = true) : isInf x = false := by simp_all [isNaN, isInf]

/-- A NaN is not a zero. -/
theorem isZero_of_isNaN {x : Quad} (h : isNaN x = true) : isZero x = false := by simp_all [isNaN, isZero]

/-- An infinity is not a zero. -/
theorem isZero_of_isInf {x : Quad} (h : isInf x = true) : isZero x = false := by simp_all [isInf, isZero]

/-- A finite pattern is neither a NaN nor an infinity. -/
theorem isFinite_iff {x : Quad} : isFinite x = true ↔ isNaN x = false ∧ isInf x = false := by simp [isFinite]

end Sys2Proof.Machine
end

