-- ==== Sys2Proof/Laws/State.lean ====
section
/-! SUPPORT. One lemma per field per update of the state, so that no proof unfolds a record update. -/

namespace Sys2Proof.Machine

/-! ### presentOk -/

@[simp] theorem State.presentOk_ins (lo hi : Word) (s : State) : (s.presentOk lo hi).ins = s.ins := rfl
@[simp] theorem State.presentOk_script (lo hi : Word) (s : State) : (s.presentOk lo hi).script = s.script := rfl
@[simp] theorem State.presentOk_reqReady (lo hi : Word) (s : State) : (s.presentOk lo hi).reqReady = s.reqReady := rfl
@[simp] theorem State.presentOk_rspValid (lo hi : Word) (s : State) : (s.presentOk lo hi).rspValid = true := rfl
@[simp] theorem State.presentOk_rspStatus (lo hi : Word) (s : State) : (s.presentOk lo hi).rspStatus = 0 := rfl
@[simp] theorem State.presentOk_rspCause (lo hi : Word) (s : State) : (s.presentOk lo hi).rspCause = 0 := rfl
@[simp] theorem State.presentOk_rspRLo (lo hi : Word) (s : State) : (s.presentOk lo hi).rspRLo = lo := rfl
@[simp] theorem State.presentOk_rspRHi (lo hi : Word) (s : State) : (s.presentOk lo hi).rspRHi = hi := rfl
@[simp] theorem State.presentOk_inflight (lo hi : Word) (s : State) : (s.presentOk lo hi).inflight = s.inflight := rfl
@[simp] theorem State.presentOk_readyBy (lo hi : Word) (s : State) : (s.presentOk lo hi).readyBy = s.readyBy := rfl
@[simp] theorem State.presentOk_cycle (lo hi : Word) (s : State) : (s.presentOk lo hi).cycle = s.cycle := rfl

/-! ### takeAbort -/

@[simp] theorem State.takeAbort_ins (c : Cause) (s : State) : (s.takeAbort c).ins = s.ins := rfl
@[simp] theorem State.takeAbort_script (c : Cause) (s : State) : (s.takeAbort c).script = s.script := rfl
@[simp] theorem State.takeAbort_reqReady (c : Cause) (s : State) : (s.takeAbort c).reqReady = s.reqReady := rfl
@[simp] theorem State.takeAbort_rspValid (c : Cause) (s : State) : (s.takeAbort c).rspValid = true := rfl
@[simp] theorem State.takeAbort_rspStatus (c : Cause) (s : State) : (s.takeAbort c).rspStatus = 1 := rfl
@[simp] theorem State.takeAbort_rspCause (c : Cause) (s : State) : (s.takeAbort c).rspCause = c.code := rfl
@[simp] theorem State.takeAbort_rspRLo (c : Cause) (s : State) : (s.takeAbort c).rspRLo = Config.abortLo s.cycle := rfl
@[simp] theorem State.takeAbort_rspRHi (c : Cause) (s : State) : (s.takeAbort c).rspRHi = Config.abortHi s.cycle := rfl
@[simp] theorem State.takeAbort_inflight (c : Cause) (s : State) : (s.takeAbort c).inflight = s.inflight := rfl
@[simp] theorem State.takeAbort_readyBy (c : Cause) (s : State) : (s.takeAbort c).readyBy = s.readyBy := rfl
@[simp] theorem State.takeAbort_cycle (c : Cause) (s : State) : (s.takeAbort c).cycle = s.cycle := rfl

/-! ### age -/

@[simp] theorem State.age_ins (s : State) : (s.age).ins = s.ins := rfl
@[simp] theorem State.age_script (s : State) : (s.age).script = s.script := rfl
@[simp] theorem State.age_reqReady (s : State) : (s.age).reqReady = s.reqReady := rfl
@[simp] theorem State.age_rspValid (s : State) : (s.age).rspValid = s.rspValid := rfl
@[simp] theorem State.age_rspStatus (s : State) : (s.age).rspStatus = s.rspStatus := rfl
@[simp] theorem State.age_rspCause (s : State) : (s.age).rspCause = s.rspCause := rfl
@[simp] theorem State.age_rspRLo (s : State) : (s.age).rspRLo = s.rspRLo := rfl
@[simp] theorem State.age_rspRHi (s : State) : (s.age).rspRHi = s.rspRHi := rfl
@[simp] theorem State.age_inflight (s : State) : (s.age).inflight = s.inflight.map fun e => { e with wait := e.wait - 1 } := rfl
@[simp] theorem State.age_readyBy (s : State) : (s.age).readyBy = s.readyBy := rfl
@[simp] theorem State.age_cycle (s : State) : (s.age).cycle = s.cycle := rfl

/-! ### driveReady -/

@[simp] theorem State.driveReady_ins (s : State) : (s.driveReady).ins = s.ins := rfl
@[simp] theorem State.driveReady_script (s : State) : (s.driveReady).script = s.script := rfl
@[simp] theorem State.driveReady_reqReady (s : State) : (s.driveReady).reqReady = (decide (s.inflight.length < Config.depth) &&
      (s.readyByNext == some 0 || Config.readyChoice s.cycle (s.inflight.map (·.req.op)))) := rfl
@[simp] theorem State.driveReady_rspValid (s : State) : (s.driveReady).rspValid = s.rspValid := rfl
@[simp] theorem State.driveReady_rspStatus (s : State) : (s.driveReady).rspStatus = s.rspStatus := rfl
@[simp] theorem State.driveReady_rspCause (s : State) : (s.driveReady).rspCause = s.rspCause := rfl
@[simp] theorem State.driveReady_rspRLo (s : State) : (s.driveReady).rspRLo = s.rspRLo := rfl
@[simp] theorem State.driveReady_rspRHi (s : State) : (s.driveReady).rspRHi = s.rspRHi := rfl
@[simp] theorem State.driveReady_inflight (s : State) : (s.driveReady).inflight = s.inflight := rfl
@[simp] theorem State.driveReady_readyBy (s : State) : (s.driveReady).readyBy = s.readyByNext := rfl
@[simp] theorem State.driveReady_cycle (s : State) : (s.driveReady).cycle = s.cycle := rfl

/-! ### nextInputs -/

@[simp] theorem State.nextInputs_ins (s : State) : (s.nextInputs).ins = s.script.headD Inputs.idle := rfl
@[simp] theorem State.nextInputs_script (s : State) : (s.nextInputs).script = s.script.tail := rfl
@[simp] theorem State.nextInputs_reqReady (s : State) : (s.nextInputs).reqReady = s.reqReady := rfl
@[simp] theorem State.nextInputs_rspValid (s : State) : (s.nextInputs).rspValid = s.rspValid := rfl
@[simp] theorem State.nextInputs_rspStatus (s : State) : (s.nextInputs).rspStatus = s.rspStatus := rfl
@[simp] theorem State.nextInputs_rspCause (s : State) : (s.nextInputs).rspCause = s.rspCause := rfl
@[simp] theorem State.nextInputs_rspRLo (s : State) : (s.nextInputs).rspRLo = s.rspRLo := rfl
@[simp] theorem State.nextInputs_rspRHi (s : State) : (s.nextInputs).rspRHi = s.rspRHi := rfl
@[simp] theorem State.nextInputs_inflight (s : State) : (s.nextInputs).inflight = s.inflight := rfl
@[simp] theorem State.nextInputs_readyBy (s : State) : (s.nextInputs).readyBy = s.readyBy := rfl
@[simp] theorem State.nextInputs_cycle (s : State) : (s.nextInputs).cycle = s.cycle + 1 := rfl

/-! ### takeReset -/

@[simp] theorem State.takeReset_ins (s : State) : (s.takeReset).ins = s.script.headD Inputs.idle := rfl
@[simp] theorem State.takeReset_script (s : State) : (s.takeReset).script = s.script.tail := rfl
@[simp] theorem State.takeReset_reqReady (s : State) : (s.takeReset).reqReady = Config.readyChoice s.cycle [] := rfl
@[simp] theorem State.takeReset_rspValid (s : State) : (s.takeReset).rspValid = false := rfl
@[simp] theorem State.takeReset_rspStatus (s : State) : (s.takeReset).rspStatus = Config.idleStatus s.cycle := rfl
@[simp] theorem State.takeReset_rspCause (s : State) : (s.takeReset).rspCause = Config.idleCause s.cycle := rfl
@[simp] theorem State.takeReset_rspRLo (s : State) : (s.takeReset).rspRLo = Config.idleLo s.cycle := rfl
@[simp] theorem State.takeReset_rspRHi (s : State) : (s.takeReset).rspRHi = Config.idleHi s.cycle := rfl
@[simp] theorem State.takeReset_inflight (s : State) : (s.takeReset).inflight = [] := rfl
@[simp] theorem State.takeReset_readyBy (s : State) : (s.takeReset).readyBy = some (Config.readyDelay s.cycle) := rfl
@[simp] theorem State.takeReset_cycle (s : State) : (s.takeReset).cycle = s.cycle + 1 := rfl

/-! ### withRequest -/

@[simp] theorem State.withRequest_ins (s : State) (r : Request) : (s.withRequest r).ins = { s.ins with rst := false } := rfl
@[simp] theorem State.withRequest_script (s : State) (r : Request) : (s.withRequest r).script = s.script := rfl
@[simp] theorem State.withRequest_reqReady (s : State) (r : Request) : (s.withRequest r).reqReady = s.reqReady := rfl
@[simp] theorem State.withRequest_rspValid (s : State) (r : Request) : (s.withRequest r).rspValid = false := rfl
@[simp] theorem State.withRequest_rspStatus (s : State) (r : Request) : (s.withRequest r).rspStatus = s.rspStatus := rfl
@[simp] theorem State.withRequest_rspCause (s : State) (r : Request) : (s.withRequest r).rspCause = s.rspCause := rfl
@[simp] theorem State.withRequest_rspRLo (s : State) (r : Request) : (s.withRequest r).rspRLo = s.rspRLo := rfl
@[simp] theorem State.withRequest_rspRHi (s : State) (r : Request) : (s.withRequest r).rspRHi = s.rspRHi := rfl
@[simp] theorem State.withRequest_inflight (s : State) (r : Request) : (s.withRequest r).inflight = [⟨r, 0⟩] := rfl
@[simp] theorem State.withRequest_readyBy (s : State) (r : Request) : (s.withRequest r).readyBy = s.readyBy := rfl
@[simp] theorem State.withRequest_cycle (s : State) (r : Request) : (s.withRequest r).cycle = s.cycle := rfl

/-! ### retire -/

@[simp] theorem State.retire_ins (s : State) : s.retire.ins = s.ins := by
  unfold State.retire; split <;> rfl
@[simp] theorem State.retire_script (s : State) : s.retire.script = s.script := by
  unfold State.retire; split <;> rfl
@[simp] theorem State.retire_reqReady (s : State) : s.retire.reqReady = s.reqReady := by
  unfold State.retire; split <;> rfl
theorem State.retire_rspValid (s : State) : s.retire.rspValid = if s.delivering then false else s.rspValid := by
  unfold State.retire; split <;> rfl
@[simp] theorem State.retire_rspStatus (s : State) : s.retire.rspStatus = s.rspStatus := by
  unfold State.retire; split <;> rfl
@[simp] theorem State.retire_rspCause (s : State) : s.retire.rspCause = s.rspCause := by
  unfold State.retire; split <;> rfl
@[simp] theorem State.retire_rspRLo (s : State) : s.retire.rspRLo = s.rspRLo := by
  unfold State.retire; split <;> rfl
@[simp] theorem State.retire_rspRHi (s : State) : s.retire.rspRHi = s.rspRHi := by
  unfold State.retire; split <;> rfl
theorem State.retire_inflight (s : State) : s.retire.inflight = if s.delivering then s.inflight.tail else s.inflight := by
  unfold State.retire; split <;> rfl
@[simp] theorem State.retire_readyBy (s : State) : s.retire.readyBy = s.readyBy := by
  unfold State.retire; split <;> rfl
@[simp] theorem State.retire_cycle (s : State) : s.retire.cycle = s.cycle := by
  unfold State.retire; split <;> rfl

/-! ### enqueue -/

@[simp] theorem State.enqueue_ins (s : State) : s.enqueue.ins = s.ins := by
  unfold State.enqueue; split <;> rfl
@[simp] theorem State.enqueue_script (s : State) : s.enqueue.script = s.script := by
  unfold State.enqueue; split <;> rfl
@[simp] theorem State.enqueue_reqReady (s : State) : s.enqueue.reqReady = s.reqReady := by
  unfold State.enqueue; split <;> rfl
@[simp] theorem State.enqueue_rspValid (s : State) : s.enqueue.rspValid = s.rspValid := by
  unfold State.enqueue; split <;> rfl
@[simp] theorem State.enqueue_rspStatus (s : State) : s.enqueue.rspStatus = s.rspStatus := by
  unfold State.enqueue; split <;> rfl
@[simp] theorem State.enqueue_rspCause (s : State) : s.enqueue.rspCause = s.rspCause := by
  unfold State.enqueue; split <;> rfl
@[simp] theorem State.enqueue_rspRLo (s : State) : s.enqueue.rspRLo = s.rspRLo := by
  unfold State.enqueue; split <;> rfl
@[simp] theorem State.enqueue_rspRHi (s : State) : s.enqueue.rspRHi = s.rspRHi := by
  unfold State.enqueue; split <;> rfl
theorem State.enqueue_inflight (s : State) : s.enqueue.inflight = if s.accepting then s.inflight ++ [⟨s.ins.req, lat s.ins.req.op - 1⟩] else s.inflight := by
  unfold State.enqueue; split <;> rfl
@[simp] theorem State.enqueue_readyBy (s : State) : s.enqueue.readyBy = s.readyBy := by
  unfold State.enqueue; split <;> rfl
@[simp] theorem State.enqueue_cycle (s : State) : s.enqueue.cycle = s.cycle := by
  unfold State.enqueue; split <;> rfl

/-! ### floatResponse -/

@[simp] theorem State.floatResponse_ins (s : State) : s.floatResponse.ins = s.ins := by
  unfold State.floatResponse; split <;> rfl
@[simp] theorem State.floatResponse_script (s : State) : s.floatResponse.script = s.script := by
  unfold State.floatResponse; split <;> rfl
@[simp] theorem State.floatResponse_reqReady (s : State) : s.floatResponse.reqReady = s.reqReady := by
  unfold State.floatResponse; split <;> rfl
@[simp] theorem State.floatResponse_rspValid (s : State) : s.floatResponse.rspValid = s.rspValid := by
  unfold State.floatResponse; split <;> rfl
theorem State.floatResponse_rspStatus (s : State) : s.floatResponse.rspStatus = if s.rspValid then s.rspStatus else Config.idleStatus s.cycle := by
  unfold State.floatResponse; split <;> rfl
theorem State.floatResponse_rspCause (s : State) : s.floatResponse.rspCause = if s.rspValid then s.rspCause else Config.idleCause s.cycle := by
  unfold State.floatResponse; split <;> rfl
theorem State.floatResponse_rspRLo (s : State) : s.floatResponse.rspRLo = if s.rspValid then s.rspRLo else Config.idleLo s.cycle := by
  unfold State.floatResponse; split <;> rfl
theorem State.floatResponse_rspRHi (s : State) : s.floatResponse.rspRHi = if s.rspValid then s.rspRHi else Config.idleHi s.cycle := by
  unfold State.floatResponse; split <;> rfl
@[simp] theorem State.floatResponse_inflight (s : State) : s.floatResponse.inflight = s.inflight := by
  unfold State.floatResponse; split <;> rfl
@[simp] theorem State.floatResponse_readyBy (s : State) : s.floatResponse.readyBy = s.readyBy := by
  unfold State.floatResponse; split <;> rfl
@[simp] theorem State.floatResponse_cycle (s : State) : s.floatResponse.cycle = s.cycle := by
  unfold State.floatResponse; split <;> rfl

end Sys2Proof.Machine
end

