-- ==== Sys2Proof/Laws/Ops.lean ====
section
/-! SUPPORT. What each shared operation does, said once: presenting a response, a clock edge, the queue's head, a step. -/

namespace Sys2Proof.Machine

/-! ### Presenting a response -/

@[simp] theorem causeOfCode_code (c : Cause) : causeOfCode c.code = some c := by cases c <;> rfl

/-- The host reads the outcome that was presented. -/
@[simp] theorem State.presented_present (r : Result) (s : State) : (s.present r).presented = some r := by
  cases r <;> simp [State.present, State.presented, readResponse]

/-- Presenting touches the response signals alone. -/
theorem State.present_frame (r : Result) (s : State) :
    ∃ status cause lo hi, s.present r =
      { s with rspValid := true, rspStatus := status, rspCause := cause, rspRLo := lo, rspRHi := hi } := by
  cases r
  · exact ⟨_, _, _, _, rfl⟩
  · exact ⟨_, _, _, _, rfl⟩

@[simp] theorem State.present_rspValid (r : Result) (s : State) : (s.present r).rspValid = true := by cases r <;> rfl
@[simp] theorem State.present_inflight (r : Result) (s : State) : (s.present r).inflight = s.inflight := by cases r <;> rfl
@[simp] theorem State.present_reqReady (r : Result) (s : State) : (s.present r).reqReady = s.reqReady := by cases r <;> rfl
@[simp] theorem State.present_ins (r : Result) (s : State) : (s.present r).ins = s.ins := by cases r <;> rfl
@[simp] theorem State.present_script (r : Result) (s : State) : (s.present r).script = s.script := by cases r <;> rfl
@[simp] theorem State.present_readyBy (r : Result) (s : State) : (s.present r).readyBy = s.readyBy := by cases r <;> rfl
@[simp] theorem State.present_cycle (r : Result) (s : State) : (s.present r).cycle = s.cycle := by cases r <;> rfl

/-- Every meaning presents its operation's outcome. -/
theorem exec_eq_answer (i : Instr) (s : State) : exec i s = answer (resultOf i) s := by cases i <;> rfl

/-- R15: the outcome of a request that decodes. -/
theorem outcome_of_decode {r : Request} {i : Instr} (h : decode r = .ok i) : outcome r = resultOf i := by
  simp [outcome, h]

/-- R274: the outcome of a request that does not. -/
theorem outcome_of_reserved {r : Request} {e : DecodeError} (h : decode r = .error e) : outcome r = .abort .illegalOp := by
  simp [outcome, h]

/-! ### A clock edge -/

@[simp] theorem State.edge_ins (s : State) : s.edge.ins = s.script.headD Inputs.idle := by simp [State.edge]
@[simp] theorem State.edge_script (s : State) : s.edge.script = s.script.tail := by simp [State.edge]
@[simp] theorem State.edge_cycle (s : State) : s.edge.cycle = s.cycle + 1 := by simp [State.edge]

/-- Acceptance looks at the host's signals and `req_ready` only. -/
theorem State.accepting_congr {s t : State} (hi : s.ins = t.ins) (hr : s.reqReady = t.reqReady) :
    s.accepting = t.accepting := by simp [State.accepting, hi, hr]

/-- R29: the queue after an edge. -/
theorem State.edge_inflight (s : State) :
    s.edge.inflight =
      (if s.delivering then s.inflight.tail else s.inflight).map (fun e => ⟨e.req, e.wait - 1⟩) ++
        (if s.accepting then [⟨s.ins.req, lat s.ins.req.op - 1⟩] else []) := by
  have h : s.retire.age.accepting = s.accepting := State.accepting_congr (by simp) (by simp)
  simp only [State.edge, State.nextInputs_inflight, State.driveReady_inflight, State.floatResponse_inflight,
    State.enqueue_inflight, h, State.age_inflight, State.retire_inflight, State.age_ins, State.retire_ins]
  split <;> simp

/-- R23: `rsp_valid` after an edge, before a new response is presented. -/
theorem State.edge_rspValid (s : State) : s.edge.rspValid = (s.rspValid && !s.delivering) := by
  simp only [State.edge, State.nextInputs_rspValid, State.driveReady_rspValid, State.floatResponse_rspValid,
    State.enqueue_rspValid, State.age_rspValid, State.retire_rspValid]
  split <;> simp_all

/-- R29: with `req_ready` up there is room for one more. -/
theorem State.edge_room {s : State} (h : s.edge.reqReady = true) : s.edge.inflight.length < Config.depth := by
  simp only [State.edge, State.nextInputs_reqReady, State.driveReady_reqReady, Bool.and_eq_true, decide_eq_true_eq] at h
  simpa [State.edge] using h.1

/-- R30: a response that is still valid after the edge is the one that was presented. -/
theorem State.edge_presented {s : State} (h : s.edge.rspValid = true) : s.edge.presented = s.presented := by
  rw [State.edge_rspValid, Bool.and_eq_true, Bool.not_eq_true'] at h
  obtain ⟨hs, hd⟩ := h
  simp [State.presented, hs, State.edge, State.floatResponse_rspStatus, State.floatResponse_rspCause,
    State.floatResponse_rspRLo, State.floatResponse_rspRHi, State.retire_rspValid, hd]

/-! ### The due request and the step -/

/-- R29, R311: what a due request is. -/
theorem State.due_eq_some {s : State} {r : Request} :
    s.due = some r ↔ s.rspValid = false ∧ ∃ es, s.inflight = ⟨r, 0⟩ :: es := by
  unfold State.due
  constructor
  · intro h
    split at h
    · rename_i e es hv hf
      split at h
      · rename_i hw
        cases e
        simp_all
      · simp at h
    · simp at h
  · rintro ⟨hv, es, hf⟩
    simp [hv, hf]

/-- A step is one of three things: a reset, an edge with nothing due, an edge after which the outcome of the due request is
presented. -/
theorem step_cases (s : State) :
    (s.ins.rst = true ∧ step s = .next s.takeReset) ∨
    (s.ins.rst = false ∧ s.edge.due = none ∧ step s = .next s.edge) ∨
    (s.ins.rst = false ∧ ∃ r, s.edge.due = some r ∧ step s = .next (s.edge.present (outcome r))) := by
  cases hr : s.ins.rst
  · cases hd : s.edge.due with
    | none => exact .inr (.inl ⟨rfl, rfl, by simp [step, hr, hd]⟩)
    | some r =>
      refine .inr (.inr ⟨rfl, r, rfl, ?_⟩)
      cases hdec : decode r with
      | ok i => simp [step, hr, hd, hdec, exec_eq_answer, answer, outcome_of_decode hdec]
      | error e => simp [step, hr, hd, hdec, outcome_of_reserved hdec, State.present]
  · exact .inl ⟨rfl, by simp [step, hr]⟩

/-- `LAT(op)` is at least 1. -/
theorem lat_pos (op : OpByte) : 0 < lat op := Nat.succ_pos _

/-- `DEPTH` is at least 1. -/
theorem depth_pos : 0 < Config.depth := Nat.succ_pos _

end Sys2Proof.Machine
end

