-- ==== Sys2Proof/Laws/PerInstr.lean ====
section
/-! SUPPORT. Facts proved once per constructor of Instr: the raw form of an operation is a well-formed request (R69, R73). -/

namespace Sys2Proof.Laws.EncodeCanonical

/-- R69, R73: the raw form has a defined opcode and every ignored bit 0. -/
def Statement (i : Instr) : Prop := (encode i).wellFormed = true

theorem mul (a b : Wide) : Statement (.mul a b) := rfl
theorem divs (a b : Wide) : Statement (.divs a b) := rfl
theorem divu (a b : Wide) : Statement (.divu a b) := rfl
theorem mods (a b : Wide) : Statement (.mods a b) := rfl
theorem modu (a b : Wide) : Statement (.modu a b) := rfl
theorem lshl (a : Wide) (c : Word) : Statement (.lshl a c) := rfl
theorem lshr (a : Wide) (c : Word) : Statement (.lshr a c) := rfl
theorem ashl (a : Wide) (c : Word) : Statement (.ashl a c) := rfl
theorem ashr (a : Wide) (c : Word) : Statement (.ashr a c) := rfl
theorem qadd (a b : Wide) : Statement (.qadd a b) := rfl
theorem qsub (a b : Wide) : Statement (.qsub a b) := rfl
theorem qmul (a b : Wide) : Statement (.qmul a b) := rfl
theorem qdiv (a b : Wide) : Statement (.qdiv a b) := rfl
theorem qeq (a b : Wide) : Statement (.qeq a b) := rfl
theorem qne (a b : Wide) : Statement (.qne a b) := rfl
theorem qge (a b : Wide) : Statement (.qge a b) := rfl
theorem qgt (a b : Wide) : Statement (.qgt a b) := rfl
theorem qle (a b : Wide) : Statement (.qle a b) := rfl
theorem qlt (a b : Wide) : Statement (.qlt a b) := rfl
theorem qcmp (a b : Wide) : Statement (.qcmp a b) := rfl
theorem qunord (a b : Wide) : Statement (.qunord a b) := rfl
theorem xsq (f : Single) : Statement (.xsq f) := by
  have h : (f.zeroExtend 64).extractLsb' 32 32 = 0#32 := by
    ext i hi; simp
  simp [Statement, encode, rawWord, Request.wellFormed, Request.opReserved, Request.ignoredBitsZero, Request.ignoresW0High,
    Request.ignoresW0Low]
  exact decide_eq_true h
theorem xdq (d : Double) : Statement (.xdq d) := rfl
theorem tqd (a : Quad) : Statement (.tqd a) := rfl
theorem tqs (a : Quad) : Statement (.tqs a) := rfl
theorem qtoi32 (a : Quad) : Statement (.qtoi32 a) := rfl
theorem qtoi64 (a : Quad) : Statement (.qtoi64 a) := rfl
theorem qtou32 (a : Quad) : Statement (.qtou32 a) := rfl
theorem qtou64 (a : Quad) : Statement (.qtou64 a) := rfl
theorem brk : Statement .brk := rfl

end Sys2Proof.Laws.EncodeCanonical
end

