-- ==== Sys2Proof/Tests/Slice0.lean ====
section
/-! SUPPORT. Tests: the encodings of R64 written out bit by bit, the refusals of the well-formedness checks, at most two vectors of
spec/95_test_vectors.md and spec/96_test_vectors_quad.md per operation, each one step of the machine, and the witnesses that the
hypotheses of the statements can be met. Every expected value is the spec's own or worked out by hand from its rules. -/

set_option Elab.async false

namespace Sys2Proof.Tests

open Sys2Proof Sys2Proof.Machine

/-! ### Helpers -/

/-- What the machine presents after one step in which the request is due. -/
def stepped (r : Request) : Option Result :=
  match step (State.reset.withRequest r) with
  | .next t => t.presented
  | .fault _ => none
  | .refused _ => none

/-- OK with a 128-bit pattern, high word first as the spec writes it. -/
def okWide (hi lo : Word) : Option Result := some (.ok lo hi)

/-- OK with one word. -/
def okWord (w : Word) : Option Result := some (.ok w 0)

/-- ABORT with a cause. -/
def aborts (c : Cause) : Option Result := some (.abort c)

/-- A request with two 128-bit operands, each high word first. -/
def req2 (op : OpByte) (ahi alo bhi blo : Word) : Request := ⟨op, alo, ahi, blo, bhi⟩

/-! ### Encodings: one word per operation, written from the binary column of R64 -/

theorem test_decode_wide_integer :
    decode ⟨0b00000000#8, 1, 2, 3, 4⟩ = .ok (.mul (pair 2 1) (pair 4 3)) ∧
    decode ⟨0b00000001#8, 1, 2, 3, 4⟩ = .ok (.divs (pair 2 1) (pair 4 3)) ∧
    decode ⟨0b00000010#8, 1, 2, 3, 4⟩ = .ok (.divu (pair 2 1) (pair 4 3)) ∧
    decode ⟨0b00000011#8, 1, 2, 3, 4⟩ = .ok (.mods (pair 2 1) (pair 4 3)) ∧
    decode ⟨0b00000100#8, 1, 2, 3, 4⟩ = .ok (.modu (pair 2 1) (pair 4 3)) := by decide

theorem test_decode_shifts :
    decode ⟨0b00000101#8, 1, 2, 3, 4⟩ = .ok (.lshl (pair 2 1) 3) ∧
    decode ⟨0b00000110#8, 1, 2, 3, 4⟩ = .ok (.lshr (pair 2 1) 3) ∧
    decode ⟨0b00000111#8, 1, 2, 3, 4⟩ = .ok (.ashl (pair 2 1) 3) ∧
    decode ⟨0b00001000#8, 1, 2, 3, 4⟩ = .ok (.ashr (pair 2 1) 3) := by decide

theorem test_decode_quad_arithmetic :
    decode ⟨0b00010000#8, 1, 2, 3, 4⟩ = .ok (.qadd (pair 2 1) (pair 4 3)) ∧
    decode ⟨0b00010001#8, 1, 2, 3, 4⟩ = .ok (.qsub (pair 2 1) (pair 4 3)) ∧
    decode ⟨0b00010010#8, 1, 2, 3, 4⟩ = .ok (.qmul (pair 2 1) (pair 4 3)) ∧
    decode ⟨0b00010011#8, 1, 2, 3, 4⟩ = .ok (.qdiv (pair 2 1) (pair 4 3)) := by decide

theorem test_decode_quad_comparisons :
    decode ⟨0b00100000#8, 1, 2, 3, 4⟩ = .ok (.qeq (pair 2 1) (pair 4 3)) ∧
    decode ⟨0b00100001#8, 1, 2, 3, 4⟩ = .ok (.qne (pair 2 1) (pair 4 3)) ∧
    decode ⟨0b00100010#8, 1, 2, 3, 4⟩ = .ok (.qge (pair 2 1) (pair 4 3)) ∧
    decode ⟨0b00100011#8, 1, 2, 3, 4⟩ = .ok (.qgt (pair 2 1) (pair 4 3)) ∧
    decode ⟨0b00100100#8, 1, 2, 3, 4⟩ = .ok (.qle (pair 2 1) (pair 4 3)) ∧
    decode ⟨0b00100101#8, 1, 2, 3, 4⟩ = .ok (.qlt (pair 2 1) (pair 4 3)) ∧
    decode ⟨0b00100110#8, 1, 2, 3, 4⟩ = .ok (.qcmp (pair 2 1) (pair 4 3)) ∧
    decode ⟨0b00100111#8, 1, 2, 3, 4⟩ = .ok (.qunord (pair 2 1) (pair 4 3)) := by decide

theorem test_decode_conversions_and_brk :
    decode ⟨0b00110000#8, 0x500000001, 2, 3, 4⟩ = .ok (.xsq 1) ∧
    decode ⟨0b00110001#8, 0x500000001, 2, 3, 4⟩ = .ok (.xdq 0x500000001) ∧
    decode ⟨0b00110010#8, 1, 2, 3, 4⟩ = .ok (.tqd (pair 2 1)) ∧
    decode ⟨0b00110011#8, 1, 2, 3, 4⟩ = .ok (.tqs (pair 2 1)) ∧
    decode ⟨0b00110100#8, 1, 2, 3, 4⟩ = .ok (.qtoi32 (pair 2 1)) ∧
    decode ⟨0b00110101#8, 1, 2, 3, 4⟩ = .ok (.qtoi64 (pair 2 1)) ∧
    decode ⟨0b00110110#8, 1, 2, 3, 4⟩ = .ok (.qtou32 (pair 2 1)) ∧
    decode ⟨0b00110111#8, 1, 2, 3, 4⟩ = .ok (.qtou64 (pair 2 1)) ∧
    decode ⟨0b00111111#8, 1, 2, 3, 4⟩ = .ok .brk := by decide

/-- R42, R60: `{w3, w2, w1, w0, op}`, the low word of each operand first. -/
theorem test_request_vector :
    (⟨0x25, 1, 2, 3, 4⟩ : Request).toVector = (4#64 ++ 3#64 ++ 2#64 ++ 1#64 ++ 0x25#8 : BitVec 264) := by decide

/-- R12: `X = hi * 2^64 + lo`. -/
theorem test_pair : (pair 2 1).toNat = 2 * 2 ^ 64 + 1 := by decide

/-- The table word of QTOU64 with operand words of zeros, and one bit of w1. -/
theorem test_decode_table_word :
    decodeTableWord 8 0x37 = some (.qtou64 0) ∧ decodeTableWord 136 (0x37 + 2 ^ 72) = some (.qtou64 (pair 1 0)) ∧
    decodeTableWord 8 0x40 = none := by decide +kernel

/-- R62: `{r_hi, r_lo, cause, status}`. -/
theorem test_response_vector :
    (State.reset.presentOk 5 7).rspVector = (7#64 ++ 5#64 ++ 0#3 ++ 0#1 : BitVec 132) := by decide

/-! ### Well-formedness: an ill-formed request for each check -/

/-- R69: the first and the last value of each reserved range. -/
theorem test_wellformed_refuses_reserved :
    ∀ op ∈ [0x09#8, 0x0F#8, 0x14#8, 0x1F#8, 0x28#8, 0x2F#8, 0x38#8, 0x3E#8, 0x40#8, 0xFF#8],
      (⟨op, 0, 0, 0, 0⟩ : Request).wellFormed = false ∧ stepped ⟨op, 0x64, 0, 0, 0⟩ = aborts .illegalOp := by decide

/-- R66, R73: `w3` of a shift, `w2` and `w3` of a conversion, `w1` of XDQ, the high half of `w0` of XSQ, `w0` of BRK. -/
theorem test_wellformed_refuses_ignored_bits :
    ∀ r ∈ [⟨0x05#8, 0, 0, 0, 1⟩, ⟨0x08#8, 0, 0, 0, 1⟩, ⟨0x32#8, 0, 0, 1, 0⟩, ⟨0x37#8, 0, 0, 0, 1⟩, ⟨0x31#8, 0, 1, 0, 0⟩,
      ⟨0x30#8, 0x100000000, 0, 0, 0⟩, ⟨0x3F#8, 1, 0, 0, 0⟩, (⟨0x3F#8, 0x100000000, 0, 0, 0⟩ : Request)],
      r.wellFormed = false := by decide

theorem test_wellformed_accepts :
    ∀ r ∈ [⟨0x00#8, 1, 2, 3, 4⟩, ⟨0x08#8, 1, 2, 3, 0⟩, ⟨0x27#8, 1, 2, 3, 4⟩, ⟨0x30#8, 0xFFFFFFFF, 0, 0, 0⟩, ⟨0x31#8, 1, 0, 0, 0⟩,
      ⟨0x37#8, 1, 2, 0, 0⟩, (⟨0x3F#8, 0, 0, 0, 0⟩ : Request)], r.wellFormed = true := by decide

/-! ### One step per vector: wide integers (95_test_vectors.md sections 1 and 2) -/

theorem test_mul_all_limbs :
    stepped (req2 0x00 0x0123456789ABCDEF 0xFEDCBA9876543210 0x0FEDCBA987654321 0x123456789ABCDEF0) =
      okWide 0xAA6C876160EC6A42 0x236D88FE5618CF00 := by decide +kernel

theorem test_mul_wraps :
    stepped (req2 0x00 0x8000000000000000 0 0xFFFFFFFFFFFFFFFF 0xFFFFFFFFFFFFFFFF) = okWide 0x8000000000000000 0 := by
  decide +kernel

theorem test_divs_signs :
    stepped (req2 0x01 0xFFFFFFFFFFFFFFFF 0xFFFFFFFFFFFFFF9C 0 7) = okWide 0xFFFFFFFFFFFFFFFF 0xFFFFFFFFFFFFFFF2 := by
  decide +kernel

theorem test_divs_zero_by_zero : stepped (req2 0x01 0 0 0 0) = aborts .divideByZero := by decide +kernel

theorem test_divu_reads_unsigned :
    stepped (req2 0x02 0xFFFFFFFFFFFFFFFF 0xFFFFFFFFFFFFFF9C 0 7) = okWide 0x2492492492492492 0x4924924924924916 := by
  decide +kernel

theorem test_divu_by_zero : stepped (req2 0x02 0 5 0 0) = aborts .divideByZero := by decide +kernel

theorem test_mods_sign_of_dividend :
    stepped (req2 0x03 0xFFFFFFFFFFFFFFFF 0xFFFFFFFFFFFFFF9C 0xFFFFFFFFFFFFFFFF 0xFFFFFFFFFFFFFFF9) =
      okWide 0xFFFFFFFFFFFFFFFF 0xFFFFFFFFFFFFFFFE := by decide +kernel

theorem test_mods_minimum_by_minus_one :
    stepped (req2 0x03 0x8000000000000000 0 0xFFFFFFFFFFFFFFFF 0xFFFFFFFFFFFFFFFF) = okWide 0 0 := by decide +kernel

theorem test_modu_two_word_divisor :
    stepped (req2 0x04 0x0123456789ABCDEF 0xFEDCBA9876543210 1 1) = okWide 0 0xFDB97530ECA86421 := by decide +kernel

theorem test_lshl_63 :
    stepped ⟨0x05, 0xFEDCBA9876543211, 0x8123456789ABCDEF, 63, 9⟩ = okWide 0xFF6E5D4C3B2A1908 0x8000000000000000 := by
  decide +kernel

theorem test_lshl_count_has_64_bits :
    stepped ⟨0x05, 0xFEDCBA9876543211, 0x8123456789ABCDEF, 0x100000000, 0⟩ = aborts .invalidShiftAmount := by decide +kernel

theorem test_lshr_65 :
    stepped ⟨0x06, 0xFEDCBA9876543211, 0x8123456789ABCDEF, 65, 0⟩ = okWide 0 0x4091A2B3C4D5E6F7 := by decide +kernel

theorem test_lshr_128 : stepped ⟨0x06, 0, 0, 128, 0⟩ = aborts .invalidShiftAmount := by decide +kernel

theorem test_ashl_127 : stepped ⟨0x07, 1, 0, 127, 0⟩ = okWide 0x8000000000000000 0 := by decide +kernel

theorem test_ashr_63 :
    stepped ⟨0x08, 0xFEDCBA9876543211, 0x8123456789ABCDEF, 63, 0⟩ = okWide 0xFFFFFFFFFFFFFFFF 0x02468ACF13579BDF := by
  decide +kernel

/-- R134: `ASHR(-7, 1) = -4`, toward minus infinity. -/
theorem test_ashr_rounds_down :
    stepped ⟨0x08, 0xFFFFFFFFFFFFFFF9, 0xFFFFFFFFFFFFFFFF, 1, 0⟩ = okWide 0xFFFFFFFFFFFFFFFF 0xFFFFFFFFFFFFFFFC := by
  decide +kernel

/-! ### Quad arithmetic (96_test_vectors_quad.md section 3) -/

theorem test_qadd_inexact :
    stepped (req2 0x10 0x3FFB999999999999 0x999999999999999A 0x3FFC999999999999 0x999999999999999A) =
      okWide 0x3FFD333333333333 0x3333333333333334 := by decide +kernel

theorem test_qadd_sticky :
    stepped (req2 0x10 0x3FFF000000000000 0 0x3F8E000000000000 0x0000000002000000) = okWide 0x3FFF000000000000 1 := by
  decide +kernel

theorem test_qsub_tie_to_even :
    stepped (req2 0x11 0x3FFF000000000000 0 0x3F8D000000000000 0) = okWide 0x3FFF000000000000 0 := by decide +kernel

theorem test_qsub_nan_sign_kept :
    stepped (req2 0x11 0x3FFF000000000000 0 0x7FFF000000000000 1) = okWide 0x7FFF800000000000 1 := by decide +kernel

theorem test_qmul_subnormal_tie :
    stepped (req2 0x12 0 1 0x3FFF800000000000 0) = okWide 0 2 := by decide +kernel

theorem test_qmul_zero_by_infinity :
    stepped (req2 0x12 0x8000000000000000 0 0xFFFF000000000000 0) = okWide 0x7FFF800000000000 0 := by decide +kernel

theorem test_qdiv_one_third :
    stepped (req2 0x13 0x3FFF000000000000 0 0x4000800000000000 0) = okWide 0x3FFD555555555555 0x5555555555555555 := by
  decide +kernel

theorem test_qdiv_subnormal_result :
    stepped (req2 0x13 0x3FFF000000000000 0 0x7FFEFFFFFFFFFFFF 0xFFFFFFFFFFFFFFFF) = okWide 0x0000400000000000 0 := by
  decide +kernel

/-! ### Quad comparisons (section 4.1): one pair of negative values, one NaN operand -/

theorem test_comparisons_ordered :
    ∀ op ∈ [0x20#8, 0x21#8, 0x22#8, 0x23#8, 0x24#8, 0x25#8, 0x26#8],
      stepped (req2 op 0xC000000000000000 0 0xBFFF000000000000 0) = okWord 0xFFFFFFFFFFFFFFFF := by decide +kernel

theorem test_comparisons_unordered :
    (∀ op ∈ [0x20#8, 0x21#8, 0x24#8, 0x25#8, 0x26#8, 0x27#8],
      stepped (req2 op 0x3FFF000000000000 0 0x7FFF000000000000 1) = okWord 1) ∧
    ∀ op ∈ [0x22#8, 0x23#8],
      stepped (req2 op 0x3FFF000000000000 0 0x7FFF000000000000 1) = okWord 0xFFFFFFFFFFFFFFFF := by decide +kernel

theorem test_qunord_infinity_is_ordered :
    stepped (req2 0x27 0x7FFF000000000000 0 0x8000000000000000 0) = okWord 0 := by decide +kernel

/-! ### Quad conversions (sections 4.2 to 4.4) and BRK (4.5) -/

theorem test_xsq_greatest_subnormal : stepped ⟨0x30, 0xDEADBEEF007FFFFF, 1, 2, 3⟩ = okWide 0x3F80FFFFFC000000 0 := by
  decide +kernel

theorem test_xsq_signaling_nan : stepped ⟨0x30, 0x7F800001, 0, 0, 0⟩ = okWide 0x7FFF000002000000 0 := by decide +kernel

theorem test_xdq_greatest_subnormal :
    stepped ⟨0x31, 0x000FFFFFFFFFFFFF, 0, 0, 0⟩ = okWide 0x3C00FFFFFFFFFFFF 0xE000000000000000 := by decide +kernel

theorem test_xdq_pi : stepped ⟨0x31, 0x400921FB54442D18, 1, 2, 3⟩ = okWide 0x4000921FB54442D1 0x8000000000000000 := by
  decide +kernel

theorem test_tqd_tie_into_normal :
    stepped ⟨0x32, 0xF000000000000000, 0x3C00FFFFFFFFFFFF, 1, 2⟩ = okWord 0x0010000000000000 := by decide +kernel

theorem test_tqd_nan_stays_nan : stepped ⟨0x32, 1, 0x7FFF000000000000, 0, 0⟩ = okWord 0x7FF8000000000000 := by decide +kernel

theorem test_tqs_halfway_to_infinity : stepped ⟨0x33, 0, 0x407EFFFFFF000000, 1, 2⟩ = okWord 0x7F800000 := by decide +kernel

theorem test_tqs_one_third_negative : stepped ⟨0x33, 0x5555555555555555, 0xBFFD555555555555, 0, 0⟩ = okWord 0xBEAAAAAB := by
  decide +kernel

theorem test_qtoi32_truncates_into_range : stepped ⟨0x34, 0, 0xC01E000000010000, 1, 2⟩ = okWord 0xFFFFFFFF80000000 := by
  decide +kernel

theorem test_qtoi32_out_of_range : stepped ⟨0x34, 0, 0x401E000000000000, 0, 0⟩ = aborts .conversionOutOfRange := by
  decide +kernel

theorem test_qtoi64_least : stepped ⟨0x35, 0x0001000000000000, 0xC03E000000000000, 0, 0⟩ = okWord 0x8000000000000000 := by
  decide +kernel

theorem test_qtoi64_below_least :
    stepped ⟨0x35, 0x0002000000000000, 0xC03E000000000000, 0, 0⟩ = aborts .conversionOutOfRange := by decide +kernel

theorem test_qtou32_greatest : stepped ⟨0x36, 0, 0x401EFFFFFFFF0000, 0, 0⟩ = okWord 0x00000000FFFFFFFF := by decide +kernel

theorem test_qtou32_minus_half : stepped ⟨0x36, 0, 0xBFFE000000000000, 0, 0⟩ = okWord 0 := by decide +kernel

theorem test_qtou64_greatest : stepped ⟨0x37, 0xFFFE000000000000, 0x403EFFFFFFFFFFFF, 0, 0⟩ = okWord 0xFFFFFFFFFFFFFFFF := by
  decide +kernel

theorem test_qtou64_nan : stepped ⟨0x37, 0, 0x7FFF800000000000, 0, 0⟩ = aborts .conversionOutOfRange := by decide +kernel

theorem test_brk_ignores_words : stepped ⟨0x3F, 0xFFFFFFFFFFFFFFFF, 1, 2, 3⟩ = okWide 0 0 := by decide +kernel

/-! ### The queue, reset and host programs -/

/-- R29, R31: a taken response makes room for the next one in the next cycle (log entry 21). -/
theorem test_next_response_follows :
    (match step { (State.reset.presentOk 1 0) with inflight := [⟨⟨0x3F, 0, 0, 0, 0⟩, 0⟩, ⟨⟨0x00, 2, 0, 3, 0⟩, 0⟩] } with
     | .next t => t.presented
     | .fault _ => none
     | .refused _ => none) = okWide 0 6 := by decide +kernel

/-- R301: reset empties the queue and withdraws the response. -/
theorem test_reset_drops :
    (match step { (State.reset.presentOk 1 0) with
        ins := { Inputs.idle with rst := true }, inflight := [⟨⟨0x3F, 0, 0, 0, 0⟩, 0⟩] } with
     | .next t => decide (t.inflight = [] ∧ t.rspValid = false)
     | .fault _ => false
     | .refused _ => false) = true := by decide +kernel

/-- R279, R72: P5 of 95_test_vectors.md, one request at a time: the first abort ends the program. -/
theorem test_host_program_ends_at_abort :
    hostRun [.line ⟨some "q", "DIVS", [.lit 5, .lit 0]⟩, .line ⟨some "p", "MUL", [.lit 100, .lit 100]⟩] 3 ⟨[], .running 0⟩ =
      ⟨[], .failed .divideByZero⟩ := by decide +kernel

/-- R72: a name bound by one line is an operand of the next (P2 of 95_test_vectors.md). -/
theorem test_host_program_binds :
    hostRun [.line ⟨some "q", "DIVS", [.lit (wrap128 (-100)), .lit 7]⟩, .line ⟨some "p", "MUL", [.var "q", .lit 7]⟩] 3
      ⟨[], .running 0⟩ = ⟨[("p", wrap128 (-98)), ("q", wrap128 (-14))], .ended⟩ := by decide +kernel

/-- R72: the textual form. -/
theorem test_parse_line :
    parseLine "q = DIVU a, 0x0000000000000001_0000000000000001".toList =
      some ⟨some "q", "DIVU", [.var "a", .lit (pair 1 1)]⟩ ∧
    parseLine "LSHL -8, 1".toList = some ⟨none, "LSHL", [.lit (wrap128 (-8)), .lit 1]⟩ ∧
    parseLine "BRK".toList = some ⟨none, "BRK", []⟩ := by decide +kernel

/-! ### Witnesses: concrete states and operands that meet the hypotheses of the statements, clause by clause at the ends of their
ranges. `LAT(op)` and `DEPTH` are open, so a clause that needs `LAT(op) > 1` has no concrete witness. -/

/-- A state that accepts `r` in this cycle, with nothing in flight. -/
def acceptingState (r : Request) : State :=
  { State.reset with reqReady := true, ins := { Inputs.idle with reqValid := true, req := r } }

/-- A state that presents the outcome of `r` to a host that does or does not take it. -/
def presentingState (r : Request) (take : Bool) : State :=
  { ((State.reset.withRequest r).present (outcome r)) with ins := { Inputs.idle with rspReady := take } }

/-- A state in a reset cycle, with a request in flight and its response presented. -/
def resettingState (r : Request) : State :=
  { presentingState r true with ins := { Inputs.idle with rst := true, reqValid := true, req := r } }

/-- The invariant with a request due. -/
theorem withRequest_inv (r : Request) : (State.reset.withRequest r).Inv :=
  ⟨depth_pos, fun h => Bool.noConfusion h, by simpa [State.withRequest] using lat_pos r.op, fun h => Bool.noConfusion h⟩

/-- The invariant with a request being accepted. -/
theorem acceptingState_inv (r : Request) : (acceptingState r).Inv :=
  ⟨Nat.zero_le _, fun _ => depth_pos, by simp [acceptingState, State.reset], fun h => Bool.noConfusion h⟩

/-- The invariant with a response presented. -/
theorem presentingState_inv (r : Request) (take : Bool) : (presentingState r take).Inv := by
  refine ⟨?_, ?_, ?_, fun _ => ⟨⟨r, 0⟩, [], ?_, ?_⟩⟩
  · simpa [presentingState, State.withRequest] using Nat.succ_le_of_lt depth_pos
  · simp [presentingState, State.withRequest, State.reset]
  · simpa [presentingState, State.withRequest] using lat_pos r.op
  · simp [presentingState, State.withRequest]
  · exact State.presented_present (outcome r) (State.reset.withRequest r)

/-- Accepting goes on, whatever `LAT(op)` is. -/
theorem acceptingState_steps (r : Request) : ∃ t, step (acceptingState r) = .next t := by
  rcases step_cases (acceptingState r) with ⟨_, h⟩ | ⟨_, _, h⟩ | ⟨_, _, _, h⟩ <;> exact ⟨_, h⟩

/-- With an empty script no reset follows. -/
theorem noReset_of_idle {s : State} (hi : s.ins.rst = false) (hs : s.script = []) (n : Nat) : s.noReset n = true := by
  cases n <;> simp [State.noReset, hi, hs]

theorem witness_EncodeOfDecodeIsTheRequest :
    (⟨0x00#8, 1, 2, 3, 4⟩ : Request).wellFormed = true ∧ (⟨0x3F#8, 0, 0, 0, 0⟩ : Request).wellFormed = true := by decide

theorem witness_ReservedOpcodesAreIllegalOp :
    ∀ op ∈ [0x09#8, 0x1F#8, 0x3E#8, 0x40#8, 0xFF#8], (⟨op, 1, 2, 3, 4⟩ : Request).opReserved = true ∧
      (State.reset.withRequest ⟨op, 1, 2, 3, 4⟩).ins.rst = false ∧
      (State.reset.withRequest ⟨op, 1, 2, 3, 4⟩).edge.due = some ⟨op, 1, 2, 3, 4⟩ := by decide

/-- A pair of requests for each way of being ignored; the two requests of a pair differ. -/
theorem witness_IgnoredOperandBitsDoNotMatter :
    ∀ p ∈ [((⟨0x40, 1, 2, 3, 4⟩ : Request), (⟨0x40, 5, 6, 7, 8⟩ : Request)), (⟨0x05, 1, 2, 3, 4⟩, ⟨0x05, 1, 2, 3, 8⟩),
      (⟨0x32, 1, 2, 3, 4⟩, ⟨0x32, 1, 2, 7, 8⟩), (⟨0x31, 1, 2, 3, 4⟩, ⟨0x31, 1, 6, 7, 8⟩),
      (⟨0x30, 0x100000001, 2, 3, 4⟩, ⟨0x30, 1, 6, 7, 8⟩), (⟨0x3F, 1, 2, 3, 4⟩, ⟨0x3F, 5, 6, 7, 8⟩)],
      p.1 ≠ p.2 ∧ p.1.op = p.2.op ∧
      (p.1.opReserved = true ∨
        ((p.1.ignoresW1 = true ∨ p.1.w1 = p.2.w1) ∧ (p.1.ignoresW2 = true ∨ p.1.w2 = p.2.w2) ∧
         (p.1.ignoresW3 = true ∨ p.1.w3 = p.2.w3) ∧
         (p.1.ignoresW0High = true ∨ p.1.w0.extractLsb' 32 32 = p.2.w0.extractLsb' 32 32) ∧
         (p.1.ignoresW0Low = true ∨ p.1.w0.extractLsb' 0 32 = p.2.w0.extractLsb' 0 32))) := by decide

theorem witness_StepExecutesTheDueRequest :
    ((State.reset.withRequest ⟨0x00, 2, 0, 3, 0⟩).ins.rst = false ∧
      (State.reset.withRequest ⟨0x00, 2, 0, 3, 0⟩).edge.due = some ⟨0x00, 2, 0, 3, 0⟩ ∧
      decode ⟨0x00, 2, 0, 3, 0⟩ = .ok (.mul 2 3)) ∧
    State.reset.ins.rst = false ∧ State.reset.edge.due = none := by decide

theorem witness_ResetDropsRequestsInFlight :
    (resettingState ⟨0x3F, 0, 0, 0, 0⟩).ins.rst = true ∧
    ∃ t, step (resettingState ⟨0x3F, 0, 0, 0, 0⟩) = .next t ∧ t.noReset 5 = true :=
  ⟨rfl, _, rfl, noReset_of_idle rfl rfl 5⟩

theorem witness_EveryStepKeepsTheInvariant :
    (∃ s t, s.Inv ∧ s.rspValid = false ∧ s.inflight ≠ [] ∧ step s = .next t) ∧
    (∃ s t, s.Inv ∧ s.rspValid = true ∧ s.delivering = true ∧ step s = .next t) ∧
    ∃ s t, s.Inv ∧ s.accepting = true ∧ step s = .next t :=
  ⟨⟨State.reset.withRequest ⟨0, 2, 0, 3, 0⟩, _, withRequest_inv _, rfl, by decide, rfl⟩,
   ⟨presentingState ⟨0, 2, 0, 3, 0⟩ true, _, presentingState_inv _ _, rfl, rfl, rfl⟩,
   (acceptingState_steps ⟨0, 2, 0, 3, 0⟩).elim fun t h => ⟨_, t, acceptingState_inv _, rfl, h⟩⟩

/-- One cycle in which a response is delivered, and one in which a request is accepted. -/
theorem witness_ResponsesComeInRequestOrder :
    (∃ s t, s.Inv ∧ s.noReset 1 = true ∧ RunsTo 1 s t ∧ s.delivering = true) ∧
    ∃ s t, s.Inv ∧ s.noReset 1 = true ∧ RunsTo 1 s t ∧ s.accepting = true :=
  ⟨⟨presentingState ⟨0, 2, 0, 3, 0⟩ true, _, presentingState_inv _ _, rfl, rfl, rfl⟩,
   (acceptingState_steps ⟨0, 2, 0, 3, 0⟩).elim fun t h =>
    ⟨acceptingState ⟨0, 2, 0, 3, 0⟩, t, acceptingState_inv _, rfl, by simp only [RunsTo, Host.Core.run, core]; rw [h], rfl⟩⟩

theorem witness_LatencyIsThatOfTheOpcode (r : Request) :
    (acceptingState r).Inv ∧ (acceptingState r).accepting = true ∧ (acceptingState r).retire.inflight = [] ∧
    (acceptingState r).noReset (lat (acceptingState r).ins.req.op) = true :=
  ⟨acceptingState_inv r, rfl, rfl, noReset_of_idle rfl rfl _⟩

theorem witness_EveryRequestIsAnswered :
    (State.reset.withRequest ⟨0, 2, 0, 3, 0⟩).Inv ∧ (State.reset.withRequest ⟨0, 2, 0, 3, 0⟩).pendingOutcomes ≠ [] ∧
    ∀ x ∈ (State.reset.withRequest ⟨0, 2, 0, 3, 0⟩).ins :: (State.reset.withRequest ⟨0, 2, 0, 3, 0⟩).script, x.rst = false :=
  ⟨withRequest_inv _, by simp [State.pendingOutcomes, State.withRequest], by decide⟩

theorem witness_TimeDoesNotDependOnOperands :
    (State.reset.withRequest ⟨0x01, 5, 0, 0, 0⟩).timing = (State.reset.withRequest ⟨0x01, 7, 0, 2, 0⟩).timing ∧
    (State.reset.withRequest ⟨0x01, 5, 0, 0, 0⟩).inflight ≠ (State.reset.withRequest ⟨0x01, 7, 0, 2, 0⟩).inflight :=
  ⟨rfl, by decide⟩

theorem witness_ResponseIsHeldUntilTaken :
    (presentingState ⟨0, 2, 0, 3, 0⟩ false).rspValid = true ∧ (presentingState ⟨0, 2, 0, 3, 0⟩ false).ins.rspReady = false ∧
    (presentingState ⟨0, 2, 0, 3, 0⟩ false).ins.rst = false := ⟨rfl, rfl, rfl⟩

/-- A reset cycle in which a request is in flight, and State.reset with its own host signals. -/
theorem witness_ReadyComesAfterReset :
    ((resettingState ⟨0, 2, 0, 3, 0⟩).ins.rst = true ∧ ∀ x ∈ (resettingState ⟨0, 2, 0, 3, 0⟩).script, x.rst = false) ∧
    (∀ x ∈ State.reset.ins :: State.reset.script, x.rst = false) ∧
    { State.reset with ins := State.reset.ins, script := State.reset.script } = State.reset :=
  ⟨⟨rfl, fun _ h => nomatch h⟩, by decide, rfl⟩

/-- One abort of each cause, at the least count and the least out-of-range value. -/
theorem witness_AbortCausesByFamily :
    (∃ t, exec (.divs 5 0) State.reset = .next t ∧ t.rspStatus = 1 ∧ t.rspCause = 1) ∧
    (∃ t, exec (.ashr 5 128) State.reset = .next t ∧ t.rspStatus = 1 ∧ t.rspCause = 2) ∧
    ∃ t, exec (.qtou64 0x403F0000000000000000000000000000) State.reset = .next t ∧ t.rspStatus = 1 ∧ t.rspCause = 3 :=
  ⟨⟨_, rfl, rfl, rfl⟩, ⟨_, rfl, rfl, rfl⟩, ⟨_, rfl, by decide +kernel, by decide +kernel⟩⟩

theorem witness_MulLaws : (0#64).toNat ≤ 127 ∧ (127#64).toNat ≤ 127 := by decide

/-- A zero divisor and a divisor that is not, for the statements on division; `-1` is a divisor like any other. -/
theorem witness_ZeroDivisorAborts :
    (Instr.divs 5 0) ∈ [Instr.divs 5 0, .divu 5 0, .mods 5 0, .modu 5 0] ∧ (0 : Wide) = 0 ∧ (1 : Wide) ≠ 0 ∧
    BitVec.allOnes 128 ≠ 0 := by decide

theorem witness_UnsignedQuotientAndRemainder : (0 : Wide) = 0 ∧ (1 : Wide) ≠ 0 := by decide

theorem witness_SignedQuotientAndRemainder : (0 : Wide) = 0 ∧ (-1 : Wide) ≠ 0 := by decide

/-- The case left out of the integer identity exists, and so does its neighbour on either side. -/
theorem witness_DivisionIdentity :
    (-1 : Wide) ≠ 0 ∧ (BitVec.intMin 128).toInt = -2 ^ 127 ∧ (-1 : Wide).toInt = -1 ∧
    ¬((BitVec.intMin 128 + 1).toInt = -2 ^ 127 ∧ (-1 : Wide).toInt = -1) ∧
    ¬((BitVec.intMin 128).toInt = -2 ^ 127 ∧ (1 : Wide).toInt = -1) := by decide

theorem witness_LeftShiftsAnswer : (127#64).toNat < 128 ∧ 128 ≤ (128#64).toNat := by decide

/-- Bit 63 of a shift by 64 still comes from the operand, bit 64 is a copy of its top bit. -/
theorem witness_RightShiftsAnswer :
    (0#64).toNat < 128 ∧ (127#64).toNat < 128 ∧ 128 ≤ (128#64).toNat ∧ 63 + (64#64).toNat ≤ 127 ∧
    ¬64 + (64#64).toNat ≤ 127 := by decide

theorem witness_ShiftLaws : (127#64).toNat < 128 ∧ (100#64).toNat + (27#64).toNat ≤ 127 := by decide

theorem witness_RestoringDividerAgrees : 2 ^ 128 - 1 < 2 ^ 128 ∧ 0 < 1 ∧ (-1 : Wide) ≠ 0 := by decide

theorem witness_WordLevelShiftsAgree : ∀ c ∈ [0#64, 1#64, 63#64, 64#64, 65#64, 127#64], c.toNat < 128 := by
  simp only [List.forall_mem_cons, List.not_mem_nil, false_implies, implies_true, and_true]
  decide

/-- The greatest finite quad and the least subnormal one. -/
theorem witness_GuardRoundStickyAdderAgrees :
    finiteBits 0x7FFEFFFFFFFFFFFFFFFFFFFFFFFFFFFF ∧ finiteBits 0x00000000000000000000000000000001 := by decide

theorem witness_QuadMultiplierAndDividerAgree :
    finiteBits 0 ∧ finiteBits 1 ∧ ¬zeroBits 1 ∧ ¬zeroBits 0x7FFEFFFFFFFFFFFFFFFFFFFFFFFFFFFF := by decide

theorem witness_IntegerRoundingIsExactRounding : formatQ ∈ threeFormats ∧ formatD ∈ threeFormats ∧ formatS ∈ threeFormats := by
  decide

/-- The least numbers of significant bits, with a zero and a non-zero rest. -/
theorem witness_StickyBitKeepsTheRounding :
    ∀ p ∈ [(formatQ, 114), (formatD, 54), (formatS, 25)], p.1 ∈ threeFormats ∧
      p.1.P + 3 = bitlen (2 * 2 ^ p.2 + if (0 : ℚ) ≠ 0 then 1 else 0) ∧
      p.1.P + 3 = bitlen (2 * 2 ^ p.2 + if (1 / 2 : ℚ) ≠ 0 then 1 else 0) ∧ (0 : ℚ) ≤ 1 / 2 ∧ (1 / 2 : ℚ) < 1 := by
  decide +kernel

/-- A tie: 1 + 2^-24 lies halfway between the singles 1 and 1 + 2^-23. And a magnitude that rounds to zero. -/
theorem witness_RoundingIsToNearestEven :
    0 ≤ (1 + 1 / 2 ^ 24 : ℚ) ∧ (1 + 1 / 2 ^ 24 : ℚ) < overflowBound formatS ∧ 0x3F800001 < 2 ^ formatS.width ∧
    formatS.exponent 0x3F800001 ≠ formatS.expOnes ∧
    |formatS.value (formatS.round false (1 + 1 / 2 ^ 24)) - (1 + 1 / 2 ^ 24)| =
      |formatS.value 0x3F800001 - (1 + 1 / 2 ^ 24)| ∧
    formatS.value 0x3F800001 ≠ formatS.value (formatS.round false (1 + 1 / 2 ^ 24)) ∧
    0 ≤ (1 / 2 ^ 200 : ℚ) ∧ (1 / 2 ^ 200 : ℚ) < overflowBound formatS ∧
    formatS.value (formatS.round true (1 / 2 ^ 200)) = 0 := by decide +kernel

/-- The bound itself and a value just below it, in each format. -/
theorem witness_OverflowStartsAtTheBound :
    ∀ F ∈ threeFormats, 0 ≤ overflowBound F ∧ overflowBound F ≤ overflowBound F ∧ 0 ≤ overflowBound F - 1 ∧
      overflowBound F - 1 < overflowBound F := by decide +kernel

/-- The least NaN fraction, a quiet NaN, and infinity beside them. -/
theorem witness_NaNOperandsPropagate :
    nanBits 0x7FFF0000000000000000000000000001 ∧ nanBits 0xFFFF8000000000000000000000000000 ∧
    ¬nanBits 0x7FFF0000000000000000000000000000 := by decide

theorem witness_NaNResultsAreExactlyTheInvalidOnes :
    nanBits 0x7FFF0000000000000000000000000001 ∧ ¬nanBits 0 ∧ infBits 0x7FFF0000000000000000000000000000 ∧
    infBits 0xFFFF0000000000000000000000000000 ∧ zeroBits 0 ∧ zeroBits 0x80000000000000000000000000000000 := by decide

/-- An infinity of either sign, zeros and the finite values next to the classes' borders: no NaN among them, and each in one class. -/
theorem witness_classes :
    (∀ x ∈ [0x7FFF0000000000000000000000000000#128, 0xFFFF0000000000000000000000000000],
      ¬nanBits x ∧ infBits x ∧ ¬finiteBits x ∧ ¬zeroBits x) ∧
    (∀ x ∈ [0x7FFEFFFFFFFFFFFFFFFFFFFFFFFFFFFF#128, 0x00010000000000000000000000000000, 0x8000000000000000000000000000FFFF],
      ¬nanBits x ∧ ¬infBits x ∧ finiteBits x ∧ ¬zeroBits x) ∧
    ∀ x ∈ [0x00000000000000000000000000000000#128, 0x80000000000000000000000000000000],
      ¬nanBits x ∧ ¬infBits x ∧ finiteBits x ∧ zeroBits x := by
  simp only [List.forall_mem_cons, List.not_mem_nil, false_implies, implies_true, and_true]
  decide

/-- Plus infinity, minus infinity, minus zero, the greatest finite quad, and the least subnormal with a minus sign. -/
abbrev posInf : Quad := 0x7FFF0000000000000000000000000000
abbrev negInf : Quad := 0xFFFF0000000000000000000000000000
abbrev negZero : Quad := 0x80000000000000000000000000000000
abbrev maxFinite : Quad := 0x7FFEFFFFFFFFFFFFFFFFFFFFFFFFFFFF
abbrev negLeast : Quad := 0x80000000000000000000000000000001

/-- Infinities of equal and of opposite sign, an infinity on either side, two finite operands with sum zero and not zero. -/
theorem witness_QuadSumIsRoundedOnce :
    (¬nanBits posInf ∧ infBits posInf ∧ ¬nanBits negInf ∧ infBits negInf ∧ posInf.msb ≠ negInf.msb) ∧
    (¬nanBits maxFinite ∧ finiteBits maxFinite ∧ ¬nanBits negLeast ∧ finiteBits negLeast ∧
      valueQ maxFinite + valueQ negLeast ≠ 0) ∧
    ¬nanBits negZero ∧ finiteBits negZero ∧ valueQ negZero + valueQ negZero = 0 ∧ valueQ negZero + valueQ 0 = 0 ∧
    ¬nanBits 0 ∧ finiteBits 0 := by decide +kernel

/-- The same for the difference; a zero difference of like operands and of the two zeros. -/
theorem witness_QuadDifferenceIsRoundedOnce :
    (¬nanBits posInf ∧ infBits posInf ∧ ¬nanBits negInf ∧ infBits negInf ∧ posInf.msb ≠ negInf.msb) ∧
    (¬nanBits maxFinite ∧ finiteBits maxFinite ∧ ¬nanBits negLeast ∧ finiteBits negLeast ∧
      valueQ maxFinite - valueQ negLeast ≠ 0 ∧ valueQ maxFinite - valueQ maxFinite = 0) ∧
    ¬nanBits negZero ∧ finiteBits negZero ∧ ¬nanBits 0 ∧ finiteBits 0 ∧ valueQ negZero - valueQ 0 = 0 := by decide +kernel

/-- Infinity by zero and by non-zero, on either side; finite operands. -/
theorem witness_QuadProductIsRoundedOnce :
    (¬nanBits posInf ∧ ¬nanBits negZero ∧ ((infBits posInf ∧ zeroBits negZero) ∨ (zeroBits posInf ∧ infBits negZero))) ∧
    (¬nanBits 0 ∧ ¬nanBits negInf ∧ ((infBits 0 ∧ zeroBits negInf) ∨ (zeroBits 0 ∧ infBits negInf))) ∧
    (¬nanBits negLeast ∧ ((infBits posInf ∧ ¬zeroBits negLeast) ∨ (¬zeroBits posInf ∧ infBits negLeast))) ∧
    ((infBits negLeast ∧ ¬zeroBits negInf) ∨ (¬zeroBits negLeast ∧ infBits negInf)) ∧
    finiteBits negLeast ∧ ¬nanBits maxFinite ∧ finiteBits maxFinite := by decide +kernel

/-- Infinity by infinity, zero by zero, infinity by finite, finite by zero, finite by infinity, zero by finite, finite by finite. -/
theorem witness_QuadQuotientIsRoundedOnce :
    (¬nanBits posInf ∧ ¬nanBits negInf ∧ infBits posInf ∧ infBits negInf) ∧
    (¬nanBits 0 ∧ ¬nanBits negZero ∧ zeroBits 0 ∧ zeroBits negZero) ∧
    (¬nanBits maxFinite ∧ infBits negInf ∧ finiteBits maxFinite ∧ finiteBits negZero) ∧
    (finiteBits maxFinite ∧ ¬zeroBits maxFinite ∧ zeroBits negZero) ∧
    (finiteBits negLeast ∧ infBits posInf) ∧
    (zeroBits negZero ∧ finiteBits negLeast ∧ ¬zeroBits negLeast) ∧
    ¬nanBits negLeast ∧ finiteBits negLeast ∧ ¬zeroBits negLeast := by decide +kernel

theorem witness_QuadArithmeticLaws :
    ¬nanBits 0x7FFF0000000000000000000000000000 ∧ ¬nanBits 1 ∧ nanBits 0x7FFF0000000000000000000000000001 := by decide +kernel

theorem witness_ComparisonsFollowTheOrderOfValues :
    ¬nanBits 0x7FFF0000000000000000000000000000 ∧ ¬nanBits 0x80000000000000000000000000000000 ∧
    Instr.qlt 0 1 ∈ [Instr.qeq 0 1, .qne 0 1, .qge 0 1, .qgt 0 1, .qle 0 1, .qlt 0 1, .qcmp 0 1] := by decide +kernel

theorem witness_UnorderedOperandsAnswerTheSentinel :
    (nanBits 0x7FFF0000000000000000000000000001 ∨ nanBits 0) ∧ (nanBits 0 ∨ nanBits 0xFFFF8000000000000000000000000000) := by
  decide +kernel

theorem witness_UnordTellsNaNs :
    (nanBits 0x7FFF0000000000000000000000000001 ∨ nanBits 0) ∧
    ¬nanBits 0x7FFF0000000000000000000000000000 ∧ ¬nanBits 0x7FFEFFFFFFFFFFFFFFFFFFFFFFFFFFFF := by decide

/-- The greatest finite double and single, and their infinities. -/
theorem witness_ExtendIsExact :
    (0x7FEFFFFFFFFFFFFF : Double).extractLsb' 52 11 ≠ 0x7FF#11 ∧ (0x7FF0000000000000 : Double).extractLsb' 52 11 = 0x7FF#11 ∧
    (0x7F7FFFFF : Single).extractLsb' 23 8 ≠ 0xFF#8 ∧ (0x7F800000 : Single).extractLsb' 23 8 = 0xFF#8 := by decide

theorem witness_TruncateRoundsOnce :
    finiteBits 0x7FFEFFFFFFFFFFFFFFFFFFFFFFFFFFFF ∧ infBits 0x7FFF0000000000000000000000000000 ∧
    nanBits 0x7FFF0000000000000000000000000001 := by decide

/-- An infinity comes back; the least and the greatest NaN fraction get the quiet bit. -/
theorem witness_TruncateUndoesExtend :
    ¬((0x7FF0000000000000 : Double).extractLsb' 52 11 = 0x7FF#11 ∧ (0x7FF0000000000000 : Double).extractLsb' 0 52 ≠ 0#52) ∧
    ((0x7FF0000000000001 : Double).extractLsb' 52 11 = 0x7FF#11 ∧ (0x7FF0000000000001 : Double).extractLsb' 0 52 ≠ 0#52) ∧
    ¬((0xFF800000 : Single).extractLsb' 23 8 = 0xFF#8 ∧ (0xFF800000 : Single).extractLsb' 0 23 ≠ 0#23) ∧
    ((0xFFFFFFFF : Single).extractLsb' 23 8 = 0xFF#8 ∧ (0xFFFFFFFF : Single).extractLsb' 0 23 ≠ 0#23) := by decide

/-- The quads -2^31, 2^31 - 1, -2^63, 2^63 - 1, -1/2, 2^32 - 1 and 2^64 - 1: the ends of the four ranges. -/
theorem witness_ConversionTruncatesTowardZero :
    (∀ p ∈ [(0xC01E0000000000000000000000000000#128, -2 ^ 31), (0x401DFFFFFFFC00000000000000000000, 2 ^ 31 - 1),
      (0xC03E0000000000000000000000000000, -2 ^ 63), (0x403DFFFFFFFFFFFFFFFC000000000000, 2 ^ 63 - 1),
      (0xBFFE0000000000000000000000000000, (0 : Int)), (0x401EFFFFFFFE00000000000000000000, 2 ^ 32 - 1),
      (0x403EFFFFFFFFFFFFFFFE000000000000, 2 ^ 64 - 1)],
      finiteBits p.1 ∧ towardZero (valueQ p.1) = p.2) := by decide +kernel

end Sys2Proof.Tests
end

section
/-! Encoding (30_encoding.md): the reserved opcodes of R69 and their answer ILLEGAL_OP (R274). -/

namespace Sys2Proof

/-- R64, R69: the decoder, which compares opcode by opcode, rejects exactly the ranges of R69. -/
theorem decode_eq_error_iff (r : Request) : decode r = .error (.reservedOpcode r.op) ↔ r.opReserved = true := by
  unfold decode
  split
  case h_31 => -- no row matched: the opcode differs from all 30 codes
    simp only [← BitVec.toNat_inj, BitVec.toNat_ofNat, imp_false] at *
    simp only [Request.opReserved, Bool.or_eq_true, Bool.and_eq_true, decide_eq_true_eq, true_iff]
    omega
  all_goals
    rename_i hop -- the row's code
    simp [Request.opReserved, hop]

end Sys2Proof

namespace Sys2Proof.Machine

/-! ### The causes an operation can abort with -/

/-- R272: the zero-divisor test is the one way a division aborts. -/
@[simp] theorem unlessZeroDivisor_resultWide_eq_abort (b x : Wide) (c : Cause) :
    unlessZeroDivisor b (resultWide x) = .abort c ↔ b = 0 ∧ .divideByZero = c := by
  unfold unlessZeroDivisor
  split
  next hzero => simp [polDivByZero, hzero]
  next hnonzero => simpa [resultWide] using fun hb => absurd hb hnonzero

/-- R273: the count test is the one way a shift aborts. -/
@[simp] theorem withCount_eq_abort (n : Word) (f : Nat → Wide) (c : Cause) :
    withCount n f = .abort c ↔ 128 ≤ u64 n ∧ .invalidShiftAmount = c := by
  unfold withCount
  split
  next hbig => simp [polShift, hbig]
  next hsmall => simp [resultWide, hsmall]

/-- R276: where the result form places every integer, a conversion aborts only where `ToInt` has none. -/
theorem convertTo_eq_abort {place : Int → Result} (hplace : ∀ t c, place t ≠ .abort c) (x : Quad) (lo hi : Int) (c : Cause) :
    convertTo x lo hi place = .abort c ↔ toInt? x lo hi = none ∧ .conversionOutOfRange = c := by
  unfold convertTo
  cases toInt? x lo hi with
  | none => simp [polConv]
  | some t => simp [hplace t c]

/-- R271: divisions, shifts and conversions abort with causes 1, 2 and 3, and the other operations do not abort. -/
theorem resultOf_ne_illegalOp (i : Instr) : resultOf i ≠ .abort .illegalOp := by
  cases i with
  | divs | divu | mods | modu => simp [resultOf, divsResult, divuResult, modsResult, moduResult]
  | lshl | lshr | ashl | ashr => simp [resultOf, lshlResult, lshrResult, ashlResult, ashrResult]
  | qtoi32 | qtoi64 | qtou32 | qtou64 =>
    exact fun h => Cause.noConfusion ((convertTo_eq_abort (fun _ _ => Result.noConfusion) _ _ _ _).1 h).2
  | mul | qadd | qsub | qmul | qdiv | qeq | qne | qge | qgt | qle | qlt | qcmp | qunord | xsq | xdq | tqd | tqs | brk =>
    exact Result.noConfusion

/-- R69, R274: ILLEGAL_OP is the outcome of the reserved opcodes and of no others. -/
theorem outcome_eq_illegalOp_iff (r : Request) : outcome r = .abort .illegalOp ↔ r.opReserved = true := by
  rw [← decode_eq_error_iff]
  cases h : decode r with
  | ok i => simp [outcome_of_decode h, resultOf_ne_illegalOp]
  | error e => simp [outcome_of_reserved h, decode_error_op h]

/-! ### The step and the settled statement -/

/-- R31: with a request due and no reset, a step presents its outcome after the edge. -/
theorem step_of_due {s : State} {r : Request} (hrst : s.ins.rst = false) (hdue : s.edge.due = some r) :
    step s = .next (s.edge.present (outcome r)) := by
  rcases step_cases s with ⟨h, -⟩ | ⟨-, h, -⟩ | ⟨-, r', h, hstep⟩
  · simp [hrst] at h
  · simp [hdue] at h
  · obtain rfl : r = r' := by simpa [hdue] using h
    exact hstep

/-- R69: the ranges hold 226 opcodes. -/
theorem length_reserved_opcodes :
    ((List.range 256).filter fun n => (⟨BitVec.ofNat 8 n, 0, 0, 0, 0⟩ : Request).opReserved).length = 226 := by
  decide +kernel

/-- Settles O4: the decoder's rejections and the outcome by `decode_eq_error_iff` and `outcome_eq_illegalOp_iff`, acceptance since
it reads no field of the request, and the step since it presents the due request's outcome. -/
theorem reservedOpcodesAreIllegalOp : Obligations.ReservedOpcodesAreIllegalOp := by
  refine ⟨fun r => ⟨decode_eq_error_iff r, outcome_eq_illegalOp_iff r⟩, length_reserved_opcodes,
    fun s r => rfl, fun s r hrst hdue hres => ⟨Config.abortLo s.edge.cycle, Config.abortHi s.edge.cycle, ?_⟩⟩
  rw [step_of_due hrst hdue, (outcome_eq_illegalOp_iff r).2 hres]
  rfl

end Sys2Proof.Machine
end

section
/-! Multiply (40_wide_multiply.md): MUL as the product of `BitVec 128`, of which both readings of R13 are homomorphic images. -/

namespace Sys2Proof.Machine

/-- R68: an operation whose outcome has the wide form answers its pattern, with the frame of `exec`. -/
theorem answersWide_of_resultOf {i : Instr} {x : Wide} (h : resultOf i = resultWide x) (s : State) : AnswersWide i s x := by
  unfold AnswersWide AnswersOk
  rw [exec_eq_answer, h]
  rfl

/-- R100: the low half of the unsigned product is the product modulo 2^128. -/
theorem resultOf_mul (a b : Wide) : resultOf (.mul a b) = resultWide (a * b) :=
  congrArg resultWide (BitVec.eq_of_toNat_eq (by simp [u128]))

/-- Settles O21: MUL answers the product modulo 2^128 (`resultOf_mul`), and reducing an integer to 128 bits respects products, so the
unsigned and the signed readings of the operands give the same pattern. -/
theorem mulAnswersTheLowHalf : Obligations.MulAnswersTheLowHalf := by
  refine ⟨fun _ _ _ _ => rfl, fun a b s => ?_⟩
  have hmul : AnswersWide (.mul a b) s (a * b) := answersWide_of_resultOf (resultOf_mul a b) s
  have hunsigned : BitVec.ofNat 128 (a.toNat * b.toNat) = a * b := by simp [BitVec.ofNat_mul]
  have hsigned : BitVec.ofInt 128 (a.toInt * b.toInt) = a * b := by simp [BitVec.ofInt_mul]
  rw [hunsigned, hsigned]
  exact ⟨hmul, hmul⟩

end Sys2Proof.Machine
end

section
/-! Divide and modulo (41_wide_divide_modulo.md): for a non-zero divisor the four operations are the divisions and remainders of
`BitVec 128`, whose identity (R115) is that of the natural numbers and the integers. -/

namespace Sys2Proof.Machine

/-! ### From outcomes to answers -/

/-- R275: an operation whose outcome is an abort answers with the code of its cause, with the frame of `exec`. -/
theorem answersAbort_of_resultOf {i : Instr} {c : Cause} (h : resultOf i = .abort c) (s : State) : AnswersAbort i s c.code := by
  refine ⟨Config.abortLo s.cycle, Config.abortHi s.cycle, ?_⟩
  rw [exec_eq_answer, h]
  rfl

/-- R68: the pattern of an outcome of the wide form. -/
theorem patternOf_of_resultOf {i : Instr} {x : Wide} (h : resultOf i = resultWide x) : patternOf i = some x := by
  unfold patternOf
  rw [h]
  exact congrArg some (pair_hiWord_loWord x)

/-- R110: a zero divisor aborts, whatever the operation would answer. -/
@[simp] theorem unlessZeroDivisor_zero (r : Result) : unlessZeroDivisor 0 r = .abort .divideByZero := rfl

/-- R110: with any other divisor the operation answers. -/
theorem unlessZeroDivisor_of_ne {b : Wide} (hb : b ≠ 0) (r : Result) : unlessZeroDivisor b r = r := if_neg hb

/-- R110, R272: the four operations abort with a zero divisor, whatever the dividend. -/
theorem answersAbort_of_zeroDivisor (a : Wide) (s : State) :
    ∀ i ∈ [Instr.divs a 0, .divu a 0, .mods a 0, .modu a 0], AnswersAbort i s 1 := by
  have habort : ∀ i ∈ [Instr.divs a 0, .divu a 0, .mods a 0, .modu a 0], resultOf i = .abort .divideByZero := by
    simp [resultOf, divsResult, divuResult, modsResult, moduResult]
  exact fun i hi => answersAbort_of_resultOf (habort i hi) s

/-! ### The pseudocode of R112 and R114 on the integers -/

/-- R13: the signed reading is Lean's. -/
theorem s128_eq_toInt (x : Wide) : s128 x = x.toInt := x.toInt_eq_msb_cond.symm

/-- R112: the quotient of the magnitudes with the sign of the operands is the quotient rounded toward zero. -/
theorem signedQuotient_eq_tdiv (a b : Int) : signedQuotient a b = a.tdiv b := by
  cases a with
  | ofNat m =>
    cases b with
    | ofNat n => simp [signedQuotient, (Int.natCast_nonneg _).not_gt]
    | negSucc n => simp [signedQuotient, Int.tdiv]
  | negSucc m =>
    cases b with
    | ofNat n => simp [signedQuotient, Int.tdiv]
    | negSucc n => simp [signedQuotient, Int.tdiv]

/-- R114: the remainder of the magnitudes with the sign of the dividend is the remainder of that quotient. -/
theorem signedRemainder_eq_tmod (a b : Int) : signedRemainder a b = a.tmod b := by
  unfold signedRemainder
  rw [Int.natCast_div, ← Int.emod_def, Int.natCast_natAbs, Int.natCast_natAbs, Int.emod_abs]
  split
  next hneg => rw [abs_of_neg hneg, ← Int.tmod_eq_emod_of_nonneg (by omega), Int.neg_tmod, neg_neg]
  next hnonneg => rw [abs_of_nonneg (by omega), Int.tmod_eq_emod_of_nonneg (by omega)]

/-! ### The patterns as numbers -/

/-- R111: the unsigned quotient of patterns. -/
theorem ofNat_toNat_div (a b : Wide) : BitVec.ofNat 128 (a.toNat / b.toNat) = a / b := by
  rw [← BitVec.toNat_udiv, BitVec.ofNat_toNat, BitVec.setWidth_eq]

/-- R113: the unsigned remainder of patterns. -/
theorem ofNat_toNat_mod (a b : Wide) : BitVec.ofNat 128 (a.toNat % b.toNat) = a % b := by
  rw [← BitVec.toNat_umod, BitVec.ofNat_toNat, BitVec.setWidth_eq]

/-- R112: the signed quotient of patterns is `wrap128` of the integer one. -/
theorem ofInt_toInt_tdiv (a b : Wide) : BitVec.ofInt 128 (a.toInt.tdiv b.toInt) = a.sdiv b :=
  BitVec.eq_of_toInt_eq (by rw [BitVec.toInt_ofInt, BitVec.toInt_sdiv])

/-- R114: the signed remainder of patterns is the integer one. -/
theorem ofInt_toInt_tmod (a b : Wide) : BitVec.ofInt 128 (a.toInt.tmod b.toInt) = a.srem b := by
  rw [← BitVec.toInt_srem, BitVec.ofInt_toInt]

/-! ### The four operations with a non-zero divisor -/

section
variable (a : Wide) {b : Wide} (hb : b ≠ 0)
include hb

/-- R111: DIVU is the unsigned division of patterns. -/
theorem resultOf_divu : resultOf (.divu a b) = resultWide (a / b) := by
  rw [← ofNat_toNat_div]
  exact unlessZeroDivisor_of_ne hb _

/-- R113: MODU is the unsigned remainder of patterns. -/
theorem resultOf_modu : resultOf (.modu a b) = resultWide (a % b) := by
  rw [← ofNat_toNat_mod, Nat.mod_def]
  exact unlessZeroDivisor_of_ne hb _

/-- R112: DIVS is the signed division of patterns, narrowed where it overflows. -/
theorem resultOf_divs : resultOf (.divs a b) = resultWide (a.sdiv b) := by
  rw [← ofInt_toInt_tdiv, ← signedQuotient_eq_tdiv, ← s128_eq_toInt, ← s128_eq_toInt]
  exact unlessZeroDivisor_of_ne hb _

/-- R114: MODS is the signed remainder of patterns. -/
theorem resultOf_mods : resultOf (.mods a b) = resultWide (a.srem b) := by
  rw [← ofInt_toInt_tmod, ← signedRemainder_eq_tmod, ← s128_eq_toInt, ← s128_eq_toInt]
  exact unlessZeroDivisor_of_ne hb _

end

/-! ### The division identity -/

/-- R115, unsigned: the identity modulo 2^128. -/
theorem udiv_mul_add_umod (a b : Wide) : a / b * b + a % b = a := by
  rw [← ofNat_toNat_div, ← ofNat_toNat_mod]
  calc BitVec.ofNat 128 (a.toNat / b.toNat) * b + BitVec.ofNat 128 (a.toNat % b.toNat)
    _ = BitVec.ofNat 128 (a.toNat / b.toNat * b.toNat + a.toNat % b.toNat) := by
      simp [BitVec.ofNat_add, BitVec.ofNat_mul]
    _ = a := by rw [Nat.div_add_mod', BitVec.ofNat_toNat, BitVec.setWidth_eq]

/-- R115, signed: the identity modulo 2^128, for -2^127 by -1 too. -/
theorem sdiv_mul_add_srem (a b : Wide) : a.sdiv b * b + a.srem b = a := by
  rw [← ofInt_toInt_tdiv, ← ofInt_toInt_tmod]
  calc BitVec.ofInt 128 (a.toInt.tdiv b.toInt) * b + BitVec.ofInt 128 (a.toInt.tmod b.toInt)
    _ = BitVec.ofInt 128 (a.toInt.tdiv b.toInt * b.toInt + a.toInt.tmod b.toInt) := by
      rw [BitVec.ofInt_add, BitVec.ofInt_mul, BitVec.ofInt_toInt]
    _ = a := by rw [Int.tdiv_mul_add_tmod, BitVec.ofInt_toInt]

/-- R115, signed: the identity over the integers wherever the quotient does not overflow. -/
theorem toInt_sdiv_mul_add_srem {a b : Wide} (h : ¬(a.toInt = -2 ^ 127 ∧ b.toInt = -1)) :
    (a.sdiv b).toInt * b.toInt + (a.srem b).toInt = a.toInt := by
  have hfits : a ≠ BitVec.intMin 128 ∨ b ≠ -1#128 := by
    by_contra! hover
    obtain ⟨rfl, rfl⟩ := hover
    exact h (by decide)
  rw [BitVec.toInt_sdiv_of_ne_or_ne a b hfits, BitVec.toInt_srem, Int.tdiv_mul_add_tmod]

/-! ### The settled statements -/

/-- Settles O24: a zero divisor aborts in `unlessZeroDivisor`; otherwise DIVU and MODU are `/` and `%` of patterns. -/
theorem unsignedQuotientAndRemainder : Obligations.UnsignedQuotientAndRemainder := by
  refine ⟨fun _ _ _ _ => ⟨rfl, rfl⟩, fun a b s => ⟨?_, fun hb => ?_⟩⟩
  · rintro rfl
    exact ⟨answersAbort_of_zeroDivisor a s _ (by simp), answersAbort_of_zeroDivisor a s _ (by simp)⟩
  · rw [ofNat_toNat_div, ofNat_toNat_mod]
    exact ⟨answersWide_of_resultOf (resultOf_divu a hb) s, answersWide_of_resultOf (resultOf_modu a hb) s⟩

/-- Settles O25: a zero divisor aborts in `unlessZeroDivisor`; otherwise DIVS and MODS are `BitVec.sdiv` and `BitVec.srem`, which are
the integer quotient toward zero and its remainder, narrowed. -/
theorem signedQuotientAndRemainder : Obligations.SignedQuotientAndRemainder := by
  refine ⟨fun _ _ _ _ => ⟨rfl, rfl⟩, fun a b s => ⟨?_, fun hb => ?_⟩⟩
  · rintro rfl
    exact ⟨answersAbort_of_zeroDivisor a s _ (by simp), answersAbort_of_zeroDivisor a s _ (by simp)⟩
  · rw [ofInt_toInt_tdiv, ofInt_toInt_tmod]
    exact ⟨answersWide_of_resultOf (resultOf_divs a hb) s, answersWide_of_resultOf (resultOf_mods a hb) s⟩

/-- Settles O26: the identities of `BitVec 128` modulo 2^128, of the natural numbers, and of the integers off the overflow. -/
theorem divisionIdentity : Obligations.DivisionIdentity := by
  intro a b hb
  have hproduct (q : Wide) : patternOf (.mul q b) = some (q * b) := patternOf_of_resultOf (resultOf_mul q b)
  constructor
  · refine ⟨a / b, a % b, a / b * b, patternOf_of_resultOf (resultOf_divu a hb), patternOf_of_resultOf (resultOf_modu a hb),
      hproduct _, udiv_mul_add_umod a b, ?_⟩
    rw [BitVec.toNat_udiv, BitVec.toNat_umod, Nat.div_add_mod']
  · exact ⟨a.sdiv b, a.srem b, a.sdiv b * b, patternOf_of_resultOf (resultOf_divs a hb),
      patternOf_of_resultOf (resultOf_mods a hb), hproduct _, sdiv_mul_add_srem a b, toInt_sdiv_mul_add_srem⟩

/-- Settles O27: the divisor is not zero, so both answer, and the signed quotient of patterns wraps. -/
theorem minimumByMinusOneWraps : Obligations.MinimumByMinusOneWraps := by
  intro s
  have hquotient : (0x80000000000000000000000000000000 : Wide).sdiv 0xFFFFFFFFFFFFFFFFFFFFFFFFFFFFFFFF =
      0x80000000000000000000000000000000 := by decide
  have hremainder : (0x80000000000000000000000000000000 : Wide).srem 0xFFFFFFFFFFFFFFFFFFFFFFFFFFFFFFFF = 0 := by decide
  exact ⟨answersWide_of_resultOf ((resultOf_divs _ (by decide)).trans (congrArg resultWide hquotient)) s,
    answersWide_of_resultOf ((resultOf_mods _ (by decide)).trans (congrArg resultWide hremainder)) s⟩

end Sys2Proof.Machine
end

section
/-! Shifts (42_wide_shifts.md): with a count below 128 the four operations are the shifts of `BitVec 128`, whose arithmetic right shift
reads the bits that R134 names. -/

namespace Sys2Proof.Machine

/-! ### The pseudocode of R131, R132 and R134 on patterns -/

/-- R131: the product with a power of two, modulo 2^128, is the pattern shifted left. -/
theorem shiftLeft_eq_hShiftLeft (a : Wide) (n : Nat) : shiftLeft a n = a <<< n :=
  BitVec.eq_of_toNat_eq (by simp [shiftLeft, u128, Nat.shiftLeft_eq])

/-- R132: the quotient by a power of two is the pattern shifted right with zeros entering. -/
theorem shiftRightLogical_eq_hShiftRight (a : Wide) (n : Nat) : shiftRightLogical a n = a >>> n := by
  unfold shiftRightLogical u128
  rw [← Nat.shiftRight_eq_div_pow, ← BitVec.toNat_ushiftRight, BitVec.ofNat_toNat, BitVec.setWidth_eq]

/-- R134: the signed quotient by a power of two, rounded down, is the pattern shifted right with copies of its top bit entering. -/
theorem shiftRightArithmetic_eq_sshiftRight (a : Wide) (n : Nat) : shiftRightArithmetic a n = a.sshiftRight n := by
  unfold shiftRightArithmetic wrap128
  rw [s128_eq_toInt, ← BitVec.ofInt_toInt (x := a.sshiftRight n), BitVec.toInt_sshiftRight, Int.shiftRight_eq_div_pow]
  rfl

/-- R134, its second form: bit `i` of the arithmetic right shift. -/
theorem getLsbD_sshiftRight_eq_ite (a : Wide) (n : Nat) {i : Nat} (hi : i < 128) :
    (a.sshiftRight n).getLsbD i = if i + n ≤ 127 then a.getLsbD (i + n) else a.getLsbD 127 := by
  rw [BitVec.getLsbD_sshiftRight, BitVec.msb_eq_getLsbD_last, Nat.add_comm i n]
  simp [hi.not_ge, Nat.lt_succ_iff]

/-! ### The count test (R130) -/

/-- R130, R273: the four operations abort with a count of 128 or more, whatever the pattern. -/
theorem answersAbort_of_largeCount (a : Wide) {c : Word} (hc : 128 ≤ c.toNat) (s : State) :
    ∀ i ∈ [Instr.lshl a c, .lshr a c, .ashl a c, .ashr a c], AnswersAbort i s 2 := by
  have habort : ∀ i ∈ [Instr.lshl a c, .lshr a c, .ashl a c, .ashr a c], resultOf i = .abort .invalidShiftAmount := by
    simp [resultOf, lshlResult, lshrResult, ashlResult, ashrResult, u64, hc]
  exact fun i hi => answersAbort_of_resultOf (habort i hi) s

section
variable (a : Wide) {c : Word} (hc : c.toNat < 128)
include hc

/-- R130: any other count is passed on whole. -/
theorem withCount_of_lt (f : Nat → Wide) : withCount c f = resultWide (f c.toNat) := if_neg hc.not_ge

/-- R131: LSHL is the left shift of patterns. -/
theorem resultOf_lshl : resultOf (.lshl a c) = resultWide (a <<< c.toNat) := by
  rw [← shiftLeft_eq_hShiftLeft]
  exact withCount_of_lt hc _

/-- R132: LSHR is the logical right shift of patterns. -/
theorem resultOf_lshr : resultOf (.lshr a c) = resultWide (a >>> c.toNat) := by
  rw [← shiftRightLogical_eq_hShiftRight]
  exact withCount_of_lt hc _

/-- R133: ASHL is LSHL bit for bit. -/
theorem resultOf_ashl : resultOf (.ashl a c) = resultWide (a <<< c.toNat) := resultOf_lshl a hc

/-- R134: ASHR is the arithmetic right shift of patterns. -/
theorem resultOf_ashr : resultOf (.ashr a c) = resultWide (a.sshiftRight c.toNat) := by
  rw [← shiftRightArithmetic_eq_sshiftRight]
  exact withCount_of_lt hc _

end

/-! ### The settled statements -/

/-- Settles O28: a count of 128 or more aborts in `withCount`; otherwise both operations are `<<<` of patterns. -/
theorem leftShiftsAnswer : Obligations.LeftShiftsAnswer := by
  refine ⟨fun _ _ _ _ => ⟨rfl, rfl⟩, fun a c s => ⟨fun hc => ?_, fun hc => ?_⟩⟩
  · exact ⟨answersWide_of_resultOf (resultOf_lshl a hc) s, answersWide_of_resultOf (resultOf_ashl a hc) s⟩
  · exact ⟨answersAbort_of_largeCount a hc s _ (by simp), answersAbort_of_largeCount a hc s _ (by simp)⟩

/-- Settles O29: a count of 128 or more aborts in `withCount`; otherwise LSHR is `>>>` of patterns and ASHR `BitVec.sshiftRight`, whose
bits are those of R134 (`getLsbD_sshiftRight_eq_ite`). -/
theorem rightShiftsAnswer : Obligations.RightShiftsAnswer := by
  refine ⟨fun _ _ _ _ => ⟨rfl, rfl⟩, fun a c s => ⟨fun hc => ?_, fun hc => ?_⟩⟩
  · exact ⟨answersWide_of_resultOf (resultOf_lshr a hc) s, a.sshiftRight c.toNat,
      answersWide_of_resultOf (resultOf_ashr a hc) s, fun i hi => getLsbD_sshiftRight_eq_ite a c.toNat hi⟩
  · exact ⟨answersAbort_of_largeCount a hc s _ (by simp), answersAbort_of_largeCount a hc s _ (by simp)⟩

end Sys2Proof.Machine
end

section
/-! Quad format and rounding (43_quad_format.md): NaN operands (R162), and where the rounding overflows (R165). -/

namespace Sys2Proof.Machine

/-! ### NaNs by their bits (R151, R160) -/

/-- R150: the exponent field of a quad as bits. -/
theorem exponent_formatQ (x : Quad) : formatQ.exponent x.toNat = (x.extractLsb' 112 15).toNat := by
  rw [BitVec.extractLsb'_toNat, Nat.shiftRight_eq_div_pow]
  rfl

/-- R150: the fraction field of a quad as bits. -/
theorem fraction_formatQ (x : Quad) : formatQ.fraction x.toNat = (x.extractLsb' 0 112).toNat := by
  rw [BitVec.extractLsb'_toNat, Nat.shiftRight_zero]
  rfl

/-- R151: in a format with exponent bits the NaNs are the patterns with exponent all ones and a fraction. -/
theorem Format.classify_eq_nan_iff {F : Format} (hF : F.expOnes ≠ 0) (x : Nat) :
    F.classify x = .nan ↔ F.exponent x = F.expOnes ∧ F.fraction x ≠ 0 := by
  unfold Format.classify
  split
  next hzero => split <;> simp [hzero, hF.symm]
  next =>
    split
    next hones => split <;> simp_all
    next hones => simp [hones]

/-- R151: the NaNs that the operations see are those of the bits. -/
theorem isNaN_iff_nanBits (x : Quad) : isNaN x = true ↔ nanBits x := by
  unfold isNaN classQ nanBits
  rw [decide_eq_true_iff, Format.classify_eq_nan_iff (by decide), exponent_formatQ, fraction_formatQ]
  exact and_congr (BitVec.toNat_inj (y := 0x7FFF#15)) (BitVec.toNat_inj (y := 0#112)).not

/-- R160: the operations' quieting sets the quiet bit and nothing else. -/
theorem quietQ_eq_withQuietBit (x : Quad) : quietQ x = withQuietBit x :=
  congrArg (x ||| ·) (by decide : 1#128 <<< 111 = BitVec.ofNat 128 (2 ^ 111))

/-! ### NaN operands (R162) -/

/-- R162: a NaN as the first operand is the one chosen. -/
theorem propagateNaN_of_left {a : Quad} (ha : nanBits a) (b : Quad) : propagateNaN a b = withQuietBit a := by
  rw [← quietQ_eq_withQuietBit]
  exact if_pos ((isNaN_iff_nanBits a).2 ha)

/-- R162: the second operand is chosen only where the first is no NaN. -/
theorem propagateNaN_of_not_left {a : Quad} (ha : ¬nanBits a) (b : Quad) : propagateNaN a b = withQuietBit b := by
  rw [← quietQ_eq_withQuietBit]
  exact if_neg (mt (isNaN_iff_nanBits a).1 ha)

/-- R180: the four operations look for NaN operands before everything else, QSUB before it flips a sign. -/
theorem resultOf_of_nanOperand {a b : Quad} (h : nanBits a ∨ nanBits b) :
    ∀ i ∈ [Instr.qadd a b, .qsub a b, .qmul a b, .qdiv a b], resultOf i = resultWide (propagateNaN a b) := by
  have hnan : isNaN a = true ∨ isNaN b = true := h.imp (isNaN_iff_nanBits a).2 (isNaN_iff_nanBits b).2
  simp [resultOf, qaddResult, qsubResult, qmulResult, qdivResult, qaddValue, qsubValue, qmulValue, qdivValue, hnan]

/-- Settles O42: with a NaN operand all four operations answer `propagateNaN`, which quiets the first one. -/
theorem nanOperandsPropagate : Obligations.NaNOperandsPropagate := by
  intro a b s i hi
  constructor
  · intro ha
    rw [← propagateNaN_of_left ha b]
    exact answersWide_of_resultOf (resultOf_of_nanOperand (.inl ha) i hi) s
  · intro ha hb
    rw [← propagateNaN_of_not_left ha b]
    exact answersWide_of_resultOf (resultOf_of_nanOperand (.inr hb) i hi) s

/-! ### Rounding to an integer, ties to even (R156) -/

/-- R156: the integer nearest to `n ≥ 0`, the even one of two. -/
def roundHalfEven (n : ℚ) : Nat :=
  let m := ⌊n⌋.toNat
  if n - m > 1 / 2 ∨ (n - m = 1 / 2 ∧ m % 2 = 1) then m + 1 else m

/-- A tie below an even integer goes up to it, so an even integer is reached exactly from half below it on. -/
theorem le_roundHalfEven_iff {n : ℚ} (hn : 0 ≤ n) {N : Nat} (hN : 2 ∣ N) : N ≤ roundHalfEven n ↔ N - 1 / 2 ≤ n := by
  have hle : (⌊n⌋.toNat : ℚ) ≤ n := Nat.floor_le hn
  have hlt : n < ⌊n⌋.toNat + 1 := Nat.lt_floor_add_one n
  unfold roundHalfEven
  generalize ⌊n⌋.toNat = m at hle hlt
  dsimp only
  split
  next hup =>
    have hhalf : 1 / 2 ≤ n - m := hup.elim le_of_lt fun h => h.1.ge
    constructor
    · intro h
      have : (N : ℚ) ≤ m + 1 := by exact_mod_cast h
      linarith
    · intro h
      have : (N : ℚ) < m + 2 := by linarith
      exact Nat.lt_succ_iff.1 (by exact_mod_cast this)
  next hdown =>
    obtain ⟨hhalf, htie⟩ := not_or.1 hdown
    constructor
    · intro h
      have : (N : ℚ) ≤ m := by exact_mod_cast h
      linarith
    · intro h
      by_contra! hm
      have : (m : ℚ) + 1 ≤ N := by exact_mod_cast hm
      have hNm : N = m + 1 := le_antisymm (Nat.lt_succ_iff.1 (by exact_mod_cast (by linarith : (N : ℚ) < m + 2))) hm
      exact htie ⟨by linarith, by omega⟩

/-! ### The two stages of the rounding (R156) -/

/-- R156: the exponent `E` of a magnitude, `EMIN` for those below `2^EMIN`. -/
def Format.binade (F : Format) (v : ℚ) : Int := max (Int.log 2 v) F.emin

/-- R156: the rounded significand, in units of `2^(E - T)`. -/
def Format.significand (F : Format) (v : ℚ) : Nat := roundHalfEven (v / (2 : ℚ) ^ (F.binade v - F.T))

/-- R156: the rounding of a magnitude that is not zero. -/
theorem Format.round_of_ne_zero (F : Format) (s : Bool) {v : ℚ} (hv : v ≠ 0) :
    F.round s v = F.finish s (F.binade v) (F.significand v) := if_neg hv

theorem Format.emin_le_binade (F : Format) (v : ℚ) : F.emin ≤ F.binade v := le_max_right _ _

/-- A magnitude lies below the next binade. -/
theorem Format.lt_two_zpow_binade (F : Format) (v : ℚ) : v < (2 : ℚ) ^ (F.binade v + 1) :=
  calc v < (2 : ℚ) ^ (Int.log 2 v + 1) := by exact_mod_cast Int.lt_zpow_succ_log_self (by norm_num : 1 < 2) v
    _ ≤ (2 : ℚ) ^ (F.binade v + 1) := zpow_le_zpow_right₀ (by norm_num) (by simp [Format.binade])

/-- A magnitude above the least binade reaches its own. -/
theorem Format.two_zpow_binade_le {F : Format} {v : ℚ} (hv : 0 < v) (h : F.emin < F.binade v) : (2 : ℚ) ^ F.binade v ≤ v := by
  have hlog : F.binade v = Int.log 2 v := max_eq_left ((lt_max_iff.1 h).resolve_right (lt_irrefl _)).le
  rw [hlog]
  exact_mod_cast Int.zpow_log_le_self (by norm_num : 1 < 2) hv

/-- The rounded significand reaches an even integer exactly from half a unit below it on. -/
theorem Format.le_significand_iff (F : Format) {v : ℚ} (hv : 0 ≤ v) {N : Nat} (hN : 2 ∣ N) :
    N ≤ F.significand v ↔ (N - 1 / 2) * (2 : ℚ) ^ (F.binade v - F.T) ≤ v := by
  have hunit : (0 : ℚ) < (2 : ℚ) ^ (F.binade v - F.T) := by positivity
  rw [Format.significand, le_roundHalfEven_iff (by positivity) hN, le_div_iff₀ hunit]

/-- The unit of the significand is `2^T` times smaller than the least magnitude of the binade. -/
theorem Format.two_zpow_binade_eq (F : Format) (v : ℚ) :
    (2 : ℚ) ^ F.binade v = 2 ^ F.T * (2 : ℚ) ^ (F.binade v - F.T) := by
  rw [← zpow_natCast, ← zpow_add₀ two_ne_zero, add_sub_cancel]

/-- Above the least binade the significand has its leading bit. -/
theorem Format.two_pow_le_significand {F : Format} (hT : 1 ≤ F.T) {v : ℚ} (hv : 0 < v) (h : F.emin < F.binade v) :
    2 ^ F.T ≤ F.significand v := by
  rw [F.le_significand_iff hv.le (dvd_pow_self 2 (by omega))]
  calc (((2 ^ F.T : Nat) : ℚ) - 1 / 2) * (2 : ℚ) ^ (F.binade v - F.T)
    _ ≤ 2 ^ F.T * (2 : ℚ) ^ (F.binade v - F.T) := by gcongr; push_cast; linarith
    _ ≤ v := (F.two_zpow_binade_eq v).ge.trans (F.two_zpow_binade_le hv h)

/-- A significand below `2^(T+1)` does not round up by another binade. -/
theorem Format.significand_lt {F : Format} (hT : 1 ≤ F.T) {v : ℚ} (hv : 0 ≤ v) : F.significand v < 3 * 2 ^ F.T := by
  have hone : (1 : ℚ) ≤ 2 ^ F.T := one_le_pow₀ (by norm_num)
  rw [← not_le, F.le_significand_iff hv ((dvd_pow_self 2 (by omega)).mul_left 3), not_le]
  calc v < (2 : ℚ) ^ (F.binade v + 1) := F.lt_two_zpow_binade v
    _ = 2 * 2 ^ F.T * (2 : ℚ) ^ (F.binade v - F.T) := by rw [zpow_add_one₀ two_ne_zero, F.two_zpow_binade_eq]; ring
    _ ≤ (((3 * 2 ^ F.T : Nat) : ℚ) - 1 / 2) * (2 : ℚ) ^ (F.binade v - F.T) := by gcongr; push_cast; linarith

/-! ### Overflow (R165) -/

/-- R156: packing from exponent and significand overflows when the body passes the greatest finite one. -/
def Format.Overflows (F : Format) (E : Int) (m : Nat) : Prop := F.expOnes * 2 ^ F.T ≤ (E - F.emin).toNat * 2 ^ F.T + m

/-- R165: on overflow the last clamp of R156 gives the infinity. -/
theorem Format.finish_of_overflows {F : Format} (s : Bool) {E : Int} {m : Nat} (h : F.Overflows E m) :
    F.finish s E m = F.ofFields s F.expOnes 0 := congrArg (F.pack s) (min_eq_right h)

/-- The exponent field of a packed body. -/
theorem Format.exponent_pack (F : Format) (s : Bool) (body : Nat) :
    F.exponent (F.pack s body) = body / 2 ^ F.T % 2 ^ F.W := by
  have hsign : F.pack s body = body + 2 ^ F.T * (s.toNat * 2 ^ F.W) := by
    unfold Format.pack
    ring
  rw [Format.exponent, hsign, Nat.add_mul_div_left _ _ (by positivity), Nat.add_mul_mod_self_right]

/-- R165: without overflow the result is finite. -/
theorem Format.exponent_finish_of_not_overflows {F : Format} (s : Bool) {E : Int} {m : Nat} (h : ¬F.Overflows E m) :
    F.exponent (F.finish s E m) ≠ F.expOnes := by
  have hbody : (E - F.emin).toNat * 2 ^ F.T + m < F.expOnes * 2 ^ F.T := not_le.1 h
  rw [Format.finish, min_eq_left hbody.le, Format.exponent_pack]
  exact ((Nat.mod_le _ _).trans_lt ((Nat.div_lt_iff_lt_mul (by positivity)).2 hbody)).ne

/-- R153: with two exponent bits or more, exponent fields 1 to `expOnes - 1` are those of `EMIN` to `EMAX`. -/
theorem Format.expOnes_eq {F : Format} (hW : 2 ≤ F.W) : (F.expOnes : Int) = F.emax - F.emin + 2 := by
  obtain ⟨k, hk⟩ := Nat.exists_eq_add_of_le' hW
  have hpos : 1 ≤ 2 ^ (k + 2) := Nat.one_le_two_pow
  simp only [Format.expOnes, Format.emax, Format.emin, Format.bias, hk, Nat.add_succ_sub_one]
  push_cast [hpos]
  ring

theorem Format.emin_lt_emax {F : Format} (hW : 2 ≤ F.W) : F.emin < F.emax := by
  obtain ⟨k, hk⟩ := Nat.exists_eq_add_of_le' hW
  have hpos : (1 : Int) ≤ 2 ^ k := by exact_mod_cast Nat.one_le_two_pow
  simp only [Format.emax, Format.emin, Format.bias, hk, Nat.add_succ_sub_one, pow_succ]
  omega

theorem Format.expOnes_pos {F : Format} (hW : 2 ≤ F.W) : 0 < F.expOnes := by
  have hones := F.expOnes_eq hW
  have hrange := F.emin_lt_emax hW
  omega

/-- From the exponent `E` on, `EMAX + 2 - E` binades are left below the infinity. -/
theorem Format.overflows_iff {F : Format} (hW : 2 ≤ F.W) {E : Int} (hE : F.emin ≤ E) (m : Nat) :
    F.Overflows E m ↔ (F.emax + 2 - E) * 2 ^ F.T ≤ m := by
  have htop := F.expOnes_eq hW
  rw [Format.Overflows, ← Int.ofNat_le]
  push_cast
  rw [Int.toNat_of_nonneg (by omega), htop, ← sub_nonneg, ← sub_nonneg (b := (F.emax + 2 - E) * 2 ^ F.T)]
  ring_nf

/-- R165: the bound is half a unit below `2^(EMAX + 1)`. -/
theorem overflowBound_eq (F : Format) :
    overflowBound F = (((2 * 2 ^ F.T : Nat) : ℚ) - 1 / 2) * (2 : ℚ) ^ (F.emax - F.T) := by
  have hT : (2 : ℚ) ^ F.T ≠ 0 := by positivity
  rw [overflowBound, Format.P, zpow_neg, zpow_sub₀ two_ne_zero, zpow_natCast, zpow_natCast, pow_succ]
  push_cast
  field_simp

theorem two_zpow_emax_le_overflowBound (F : Format) : (2 : ℚ) ^ F.emax ≤ overflowBound F := by
  have hP : (2 : ℚ) ^ (-(F.P : ℤ)) ≤ 1 := zpow_le_one_of_nonpos₀ (by norm_num) (by omega)
  exact le_mul_of_one_le_left (by positivity) (by linarith)

theorem overflowBound_lt_two_zpow (F : Format) : overflowBound F < (2 : ℚ) ^ (F.emax + 1) := by
  have hP : (0 : ℚ) < (2 : ℚ) ^ (-(F.P : ℤ)) := by positivity
  rw [zpow_add_one₀ two_ne_zero, mul_comm, overflowBound]
  gcongr
  linarith

/-- R165: the rounding of a magnitude overflows exactly from the bound on. Below the last binade neither side holds, above it both do;
in it the significand must reach `2^(T+1)`, an even integer, which it does from half a unit below on. -/
theorem Format.overflows_iff_overflowBound_le {F : Format} (hW : 2 ≤ F.W) (hT : 1 ≤ F.T) {v : ℚ} (hv : 0 < v) :
    F.Overflows (F.binade v) (F.significand v) ↔ overflowBound F ≤ v := by
  rw [F.overflows_iff hW (F.emin_le_binade v)]
  obtain hbelow | hlast | habove := lt_trichotomy (F.binade v) F.emax
  · refine iff_of_false (not_le.2 ?_) (not_le.2 ?_)
    · calc (F.significand v : Int) < 3 * 2 ^ F.T := by exact_mod_cast F.significand_lt hT hv.le
        _ ≤ (F.emax + 2 - F.binade v) * 2 ^ F.T := by gcongr; omega
    · calc v < (2 : ℚ) ^ (F.binade v + 1) := F.lt_two_zpow_binade v
        _ ≤ (2 : ℚ) ^ F.emax := zpow_le_zpow_right₀ (by norm_num) (by omega)
        _ ≤ overflowBound F := two_zpow_emax_le_overflowBound F
  · have hreach := F.le_significand_iff hv.le ((dvd_pow_self 2 (by omega : F.T ≠ 0)).mul_left 2)
    rw [overflowBound_eq, ← hlast, ← hreach, add_sub_cancel_left]
    exact_mod_cast Iff.rfl
  · have hmin : F.emin < F.binade v := (F.emin_lt_emax hW).trans habove
    refine iff_of_true ?_ ?_
    · calc (F.emax + 2 - F.binade v) * 2 ^ F.T ≤ 1 * 2 ^ F.T := by gcongr; omega
        _ ≤ F.significand v := by rw [one_mul]; exact_mod_cast F.two_pow_le_significand hT hv hmin
    · calc overflowBound F ≤ (2 : ℚ) ^ (F.emax + 1) := (overflowBound_lt_two_zpow F).le
        _ ≤ (2 : ℚ) ^ F.binade v := zpow_le_zpow_right₀ (by norm_num) (by omega)
        _ ≤ v := F.two_zpow_binade_le hv hmin

/-- R165: a zero rounds to a zero. -/
theorem Format.exponent_round_zero (F : Format) (s : Bool) : F.exponent (F.round s 0) = 0 := by
  rw [Format.round, if_pos rfl, Format.exponent_pack, Nat.zero_div, Nat.zero_mod]

/-- Settles O41: the rounding overflows exactly from the bound on (`Format.overflows_iff_overflowBound_le`), and it is on overflow that
the last clamp of R156 gives the infinity. -/
theorem overflowStartsAtTheBound : Obligations.OverflowStartsAtTheBound := by
  intro F hF s v hv
  obtain ⟨hW, hT⟩ : 2 ≤ F.W ∧ 1 ≤ F.T := (by decide : ∀ F ∈ threeFormats, 2 ≤ F.W ∧ 1 ≤ F.T) F hF
  obtain rfl | hpos := hv.eq_or_lt
  · have hbound : 0 < overflowBound F := lt_of_lt_of_le (by positivity) (two_zpow_emax_le_overflowBound F)
    exact ⟨fun h => absurd h hbound.not_ge, fun _ => by rw [F.exponent_round_zero]; exact (F.expOnes_pos hW).ne⟩
  · rw [F.round_of_ne_zero s hpos.ne', ← F.overflows_iff_overflowBound_le hW hT hpos, ← not_le,
      ← F.overflows_iff_overflowBound_le hW hT hpos]
    exact ⟨F.finish_of_overflows s, F.exponent_finish_of_not_overflows s⟩

end Sys2Proof.Machine
end

section
/-! Quad comparisons (45_quad_compare.md): QUNORD (R220). -/

namespace Sys2Proof.Machine

/-- R68: an operation whose outcome is one scalar word answers it, with the frame of `exec`. -/
theorem answersWord_of_resultOf {i : Instr} {w : Word} (h : resultOf i = .ok w 0) (s : State) : AnswersWord i s w := by
  unfold AnswersWord AnswersOk
  rw [exec_eq_answer, h]
  rfl

/-- R210: the comparisons' test for NaN operands is that of the bits, so quiet and signaling NaNs alike pass it. -/
theorem isNaN_or_isNaN_iff (a b : Quad) : (isNaN a || isNaN b) = true ↔ nanBits a ∨ nanBits b := by
  rw [Bool.or_eq_true, isNaN_iff_nanBits, isNaN_iff_nanBits]

/-- R220: with a NaN operand the outcome of QUNORD is 1 in the form s32. -/
theorem resultOf_qunord_of_nan {a b : Quad} (h : nanBits a ∨ nanBits b) : resultOf (.qunord a b) = .ok 1 0 :=
  congrArg resultS32 (if_pos ((isNaN_or_isNaN_iff a b).2 h))

/-- R220: for ordered operands the outcome of QUNORD is 0 in the form s32. -/
theorem resultOf_qunord_of_not_nan {a b : Quad} (h : ¬(nanBits a ∨ nanBits b)) : resultOf (.qunord a b) = .ok 0 0 :=
  congrArg resultS32 (if_neg (mt (isNaN_or_isNaN_iff a b).1 h))

/-- Settles O51: the two branches of QUNORD's test, which is that of the bits. -/
theorem unordTellsNaNs : Obligations.UnordTellsNaNs := by
  refine ⟨fun _ _ _ _ => rfl, fun a b s => ⟨fun hnan => ?_, fun ha hb => ?_⟩⟩
  · exact answersWord_of_resultOf (resultOf_qunord_of_nan hnan) s
  · exact answersWord_of_resultOf (resultOf_qunord_of_not_nan (not_or.2 ⟨ha, hb⟩)) s

end Sys2Proof.Machine
end

section
/-! The diagnostic hook (47_diagnostic.md): BRK (R260). -/

namespace Sys2Proof.Machine

/-- R260, R68: the outcome of BRK is of the form zero. -/
theorem resultOf_brk : resultOf .brk = resultZero := rfl

/-- R260: byte 0x3F is BRK whatever the operand words, none of which it reads. -/
theorem decode_brk (w0 w1 w2 w3 : Word) : decode ⟨0x3F, w0, w1, w2, w3⟩ = .ok .brk := rfl

/-- Settles O58: the form zero is the scalar word 0, which is answered with the frame of `exec` (`answersWord_of_resultOf`). -/
theorem brkAnswersZeroWords : Obligations.BrkAnswersZeroWords :=
  ⟨decode_brk, answersWord_of_resultOf resultOf_brk⟩

end Sys2Proof.Machine
end

section
/-! Exceptions (60_exceptions.md): DIVIDE_BY_ZERO (R272) and CONVERSION_OUT_OF_RANGE (R276). The aborting conversions come down to the
truncation of R237 being the truncation toward zero of the quad's rational value. -/

namespace Sys2Proof.Machine

/-! ### DIVIDE_BY_ZERO (R272) -/

/-- R110: with a non-zero divisor the four integer operations have outcomes of the wide form. -/
theorem exists_resultOf_eq_resultWide (a : Wide) {b : Wide} (hb : b ≠ 0) :
    ∀ i ∈ [Instr.divs a b, .divu a b, .mods a b, .modu a b], ∃ x, resultOf i = resultWide x := by
  simp [resultOf_divs a hb, resultOf_divu a hb, resultOf_mods a hb, resultOf_modu a hb]

/-- Settles O23: the zero-divisor test of the four operations is the one thing that aborts them, and QDIV has no such test. -/
theorem zeroDivisorAborts : Obligations.ZeroDivisorAborts := by
  refine ⟨fun a b s i hi => ⟨?_, fun hb => ?_⟩, fun a b s => ⟨qdivValue a b, answersWide_of_resultOf rfl s⟩⟩
  · rintro rfl
    exact answersAbort_of_zeroDivisor a s i hi
  · obtain ⟨x, hx⟩ := exists_resultOf_eq_resultWide a hb i hi
    exact ⟨x, answersWide_of_resultOf hx s⟩

/-! ### Finite quads by their bits (R151) -/

/-- R151: in a format with exponent bits the patterns without a value are those with exponent all ones, whatever the fraction. -/
theorem Format.classify_eq_nan_or_infinity_iff {F : Format} (hF : F.expOnes ≠ 0) (x : Nat) :
    F.classify x = .nan ∨ F.classify x = .infinity ↔ F.exponent x = F.expOnes := by
  unfold Format.classify
  split
  next hzero => split <;> simp [hzero, hF.symm]
  next =>
    split
    next hones => split <;> simp [hones]
    next hones => simp [hones]

/-- R151: the patterns that the conversions reject before they truncate are those whose bits are not of a finite value. -/
theorem isNaN_or_isInf_iff_not_finiteBits (x : Quad) : (isNaN x || isInf x) = true ↔ ¬finiteBits x := by
  unfold isNaN isInf classQ finiteBits
  rw [Bool.or_eq_true, decide_eq_true_iff, decide_eq_true_iff, Format.classify_eq_nan_or_infinity_iff (by decide),
    exponent_formatQ, not_not]
  exact BitVec.toNat_inj (y := 0x7FFF#15)

/-! ### Truncation toward zero (R237) -/

/-- Truncation toward zero drops the fraction of the magnitude of a negative value. -/
theorem towardZero_neg_of_nonneg {v : ℚ} (hv : 0 ≤ v) : towardZero (-v) = -⌊v⌋ := by
  unfold towardZero
  split
  next h =>
    obtain rfl : v = 0 := by linarith
    simp
  next => exact Int.ceil_neg

/-- R237: the shift of a significand by its exponent is the floor of the magnitude. -/
theorem floor_mul_two_zpow (m : Nat) (q : Int) :
    ⌊(m : ℚ) * 2 ^ q⌋ = ((if 0 ≤ q then m * 2 ^ q.toNat else m / 2 ^ (-q).toNat : Nat) : Int) := by
  split
  next hq =>
    lift q to Nat using hq
    rw [zpow_natCast, Int.toNat_natCast]
    exact_mod_cast Int.floor_natCast (R := ℚ) (m * 2 ^ q)
  next hq =>
    obtain ⟨n, rfl⟩ : ∃ n : Nat, q = -n := ⟨(-q).toNat, by omega⟩
    rw [zpow_neg, zpow_natCast, neg_neg, Int.toNat_natCast, ← div_eq_mul_inv]
    exact_mod_cast Rat.floor_natCast_div_natCast m (2 ^ n)

/-- R237: the truncated integer is the value truncated toward zero. -/
theorem truncInt_eq_towardZero (x : Quad) : truncInt x = towardZero (valueQ x) := by
  have hmagnitude : (0 : ℚ) ≤ (unpackQ x).m * 2 ^ (unpackQ x).q := by positivity
  change signedInt _ _ = towardZero ((signedInt (unpackQ x).s (unpackQ x).m : ℚ) * 2 ^ (unpackQ x).q)
  unfold signedInt
  split
  · rw [Int.cast_neg, Int.cast_natCast, neg_mul, towardZero_neg_of_nonneg hmagnitude, floor_mul_two_zpow]
  · rw [Int.cast_natCast, towardZero, if_pos hmagnitude, floor_mul_two_zpow]

/-- R242: truncation raises the values less than 1 below a least integer that is not positive. -/
theorem le_towardZero_iff {lo : Int} (hlo : lo ≤ 0) (v : ℚ) : lo ≤ towardZero v ↔ lo - 1 < v := by
  have hlo' : (lo : ℚ) ≤ 0 := by exact_mod_cast hlo
  unfold towardZero
  split
  next hv => exact iff_of_true (hlo.trans (Int.floor_nonneg.2 hv)) (by linarith)
  next => exact Int.le_ceil_iff

/-- R242: truncation lowers the values less than 1 above a greatest integer that is not negative. -/
theorem towardZero_le_iff {hi : Int} (hhi : 0 ≤ hi) (v : ℚ) : towardZero v ≤ hi ↔ v < hi + 1 := by
  have hhi' : (0 : ℚ) ≤ hi := by exact_mod_cast hhi
  unfold towardZero
  split
  next => exact Int.floor_le_iff
  next hv => exact iff_of_true (Int.ceil_le.2 (by linarith)) (by linarith)

/-! ### CONVERSION_OUT_OF_RANGE (R276) -/

/-- R275: an operation answers the code of a cause exactly if its outcome is that abort. -/
theorem answersAbort_iff {i : Instr} {s : State} {c : Cause} : AnswersAbort i s c.code ↔ resultOf i = .abort c := by
  refine ⟨fun ⟨lo, hi, h⟩ => ?_, fun h => answersAbort_of_resultOf h s⟩
  rw [exec_eq_answer] at h
  have hpresent := congrArg State.presented (Host.Outcome.next.inj h)
  rw [State.presented_present] at hpresent
  simpa [State.presented, readResponse] using hpresent

/-- R237, R242: `ToInt` over a range around zero has no result exactly on NaNs, infinities and values that truncate out of it. -/
theorem toInt?_eq_none_iff {lo hi : Int} (hlo : lo ≤ 0) (hhi : 0 ≤ hi) (x : Quad) :
    toInt? x lo hi = none ↔ ¬(finiteBits x ∧ (lo : ℚ) - 1 < valueQ x ∧ valueQ x < hi + 1) := by
  rw [← le_towardZero_iff hlo, ← towardZero_le_iff hhi, ← truncInt_eq_towardZero]
  unfold toInt?
  split
  next hspecial => simp [(isNaN_or_isInf_iff_not_finiteBits x).1 hspecial]
  next hfinite =>
    have hbits : finiteBits x := not_not.1 (mt (isNaN_or_isInf_iff_not_finiteBits x).2 hfinite)
    split
    next hout => exact iff_of_true rfl fun ⟨_, hin⟩ => by omega
    next hin => exact iff_of_false (Option.some_ne_none _) (not_not.2 ⟨hbits, by omega⟩)

/-- R276: a conversion whose result form places every integer aborts with cause 3 exactly off its range, whose open ends are 1 below its
least and 1 above its greatest integer. -/
theorem answersAbort_convertTo_iff {i : Instr} {a : Quad} {lo hi : Int} {place : Int → Result} {below above : ℚ}
    (hres : resultOf i = convertTo a lo hi place) (hplace : ∀ t c, place t ≠ .abort c) (hlo : lo ≤ 0) (hhi : 0 ≤ hi)
    (hbelow : (lo : ℚ) - 1 = below) (habove : (hi : ℚ) + 1 = above) (s : State) :
    AnswersAbort i s 3 ↔ ¬(finiteBits a ∧ below < valueQ a ∧ valueQ a < above) := by
  have hcause : AnswersAbort i s 3 ↔ resultOf i = .abort .conversionOutOfRange := answersAbort_iff (c := .conversionOutOfRange)
  rw [hcause, hres, convertTo_eq_abort hplace, and_iff_left rfl, toInt?_eq_none_iff hlo hhi, hbelow, habove]

/-- Settles O57: each of the four conversions is `convertTo` over its range, whose open ends are those of R242
(`answersAbort_convertTo_iff`); TQD and TQS have no outcome but a word. -/
theorem conversionAbortsOutOfRange : Obligations.ConversionAbortsOutOfRange := by
  intro a s
  refine ⟨?qtoi32, ?qtoi64, ?qtou32, ?qtou64, ⟨_, answersWord_of_resultOf rfl s⟩, ⟨_, answersWord_of_resultOf rfl s⟩⟩
  all_goals
    exact answersAbort_convertTo_iff rfl (fun _ _ => Result.noConfusion) (by decide) (by decide) (by norm_num) (by norm_num) s

end Sys2Proof.Machine
end

section
/-! Encoding (30_encoding.md): the round trips of decoder and encoder, the request vector, the ignored operand bits and the opcode map. -/

namespace Sys2Proof

open Machine

@[simp] theorem rawTwo_op (op : OpByte) (a b : Wide) : (rawTwo op a b).op = op := rfl
@[simp] theorem rawCount_op (op : OpByte) (a : Wide) (c : Word) : (rawCount op a c).op = op := rfl
@[simp] theorem rawOne_op (op : OpByte) (a : Wide) : (rawOne op a).op = op := rfl
@[simp] theorem rawWord_op (op : OpByte) (w : Word) : (rawWord op w).op = op := rfl

/-- Settles O1: the decoder reads the opcode of the raw form, and the operands of each form come back by the lemmas on raw requests. -/
theorem decodeOfEncodeIsTheInstruction : Obligations.DecodeOfEncodeIsTheInstruction := by
  intro i
  cases i with
  | mul | divs | divu | mods | modu | qadd | qsub | qmul | qdiv | qeq | qne | qge | qgt | qle | qlt | qcmp | qunord => -- WW, QQ
    simp [encode, decode]
  | lshl | lshr | ashl | ashr => simp [encode, decode] -- WC
  | tqd | tqs | qtoi32 | qtoi64 | qtou32 | qtou64 => simp [encode, decode] -- Q
  | xsq | xdq | brk => simp [encode, decode, -BitVec.truncate_eq_setWidth] -- S, D, no operand

/-! ### A request as the raw form of its operands (R73) -/

section
variable {r : Request} {op : OpByte} (hop : r.op = op)
include hop

/-- R65, R73: a request all of whose words are read is the raw form of its two operands. -/
theorem rawTwo_operands : rawTwo op r.operandA r.operandB = r := by
  simp [rawTwo, Request.operandA, Request.operandB, ← hop]

/-- R65, R73: so is one with a count, if word 3 is 0. -/
theorem rawCount_operands (h3 : r.w3 = 0) : rawCount op r.operandA r.count = r := by
  simp [rawCount, Request.operandA, Request.count, ← hop, ← h3]

/-- R65, R73: so is one with a single quad, if words 2 and 3 are 0. -/
theorem rawOne_operand (h2 : r.w2 = 0) (h3 : r.w3 = 0) : rawOne op r.operandA = r := by
  rw [rawOne, Request.operandA, loWord_pair, hiWord_pair, ← hop]
  nth_rw 1 [← h2]
  rw [← h3]

/-- R73: so is one of which word 0 alone is read, if the others are 0. -/
theorem rawWord_operand {w : Word} (h0 : r.w0 = w) (h1 : r.w1 = 0) (h2 : r.w2 = 0) (h3 : r.w3 = 0) : rawWord op w = r := by
  cases r
  simp_all [rawWord]

end

/-- R44: a word whose high half is 0 is its low half, zero-extended. -/
theorem zeroExtend_low_half {w : Word} (h : w.extractLsb' 32 32 = 0) : (w.extractLsb' 0 32).zeroExtend 64 = w := by
  rw [← BitVec.toNat_inj, BitVec.extractLsb'_toNat] at h
  apply BitVec.eq_of_toNat_eq
  simp at *
  omega

/-- Two words are equal if their halves are. -/
theorem eq_of_halves {v w : Word} (hhigh : v.extractLsb' 32 32 = w.extractLsb' 32 32)
    (hlow : v.extractLsb' 0 32 = w.extractLsb' 0 32) : v = w := by
  rw [← BitVec.toNat_inj, BitVec.extractLsb'_toNat, BitVec.extractLsb'_toNat] at hhigh hlow
  apply BitVec.eq_of_toNat_eq
  simp at *
  omega

/-- R66, R69, R73: where the ignored bits are 0, encoding the decoded operation gives the request back, form by form. -/
theorem encode_of_decode {r : Request} {i : Instr} (hdec : decode r = .ok i) (hzero : r.ignoredBitsZero = true) : encode i = r := by
  unfold decode at hdec
  split at hdec <;> cases hdec
  case h_1 | h_2 | h_3 | h_4 | h_5 | h_10 | h_11 | h_12 | h_13 | h_14 | h_15 | h_16 | h_17 | h_18 | h_19 | h_20 | h_21 => -- WW, QQ
    exact rawTwo_operands ‹_›
  all_goals
    rename_i hop
    simp [Request.ignoredBitsZero, Request.ignoresW1, Request.ignoresW2, Request.ignoresW3, Request.ignoresW0High,
      Request.ignoresW0Low, hop] at hzero
  case h_6 | h_7 | h_8 | h_9 => exact rawCount_operands hop hzero -- WC
  case h_22 => -- S
    obtain ⟨⟨⟨h1, h2⟩, h3⟩, h0⟩ := hzero
    exact rawWord_operand hop (zeroExtend_low_half h0).symm h1 h2 h3
  case h_23 => -- D
    obtain ⟨⟨h1, h2⟩, h3⟩ := hzero
    exact rawWord_operand hop rfl h1 h2 h3
  case h_24 | h_25 | h_26 | h_27 | h_28 | h_29 => exact rawOne_operand hop hzero.1 hzero.2 -- Q
  case h_30 => -- no operand
    obtain ⟨⟨⟨⟨h1, h2⟩, h3⟩, hhigh⟩, hlow⟩ := hzero
    exact rawWord_operand hop (eq_of_halves hhigh hlow) h1 h2 h3

/-- Settles O2: a request that is not reserved decodes (`decode_eq_error_iff`), and the ignored bits are 0 (`encode_of_decode`). -/
theorem encodeOfDecodeIsTheRequest : Obligations.EncodeOfDecodeIsTheRequest := by
  intro r hwf
  obtain ⟨hdefined, hzero⟩ : r.opReserved = false ∧ r.ignoredBitsZero = true := by simpa [Request.wellFormed] using hwf
  cases hdec : decode r with
  | ok i => exact ⟨i, rfl, encode_of_decode hdec hzero⟩
  | error e =>
    rw [decode_error_op hdec, decode_eq_error_iff, hdefined] at hdec
    exact Bool.noConfusion hdec

/-! ### The request vector (R60) -/

/-- R60: the five fields at their places. -/
theorem extractLsb'_toVector (r : Request) :
    r.toVector.extractLsb' 0 8 = r.op ∧ r.toVector.extractLsb' 8 64 = r.w0 ∧ r.toVector.extractLsb' 72 64 = r.w1 ∧
    r.toVector.extractLsb' 136 64 = r.w2 ∧ r.toVector.extractLsb' 200 64 = r.w3 := by
  unfold Request.toVector
  refine ⟨?_, ?_, ?_, ?_, ?_⟩
  all_goals
    simp (disch := decide) only [BitVec.extractLsb'_append_eq_of_le, BitVec.extractLsb'_append_eq_of_add_le,
      BitVec.extractLsb'_eq_self, Nat.reduceSub, Nat.sub_self]

/-- R60: a vector is its fields side by side. -/
theorem toVector_ofVector (v : BitVec 264) : (Request.ofVector v).toVector = v := by
  have h32 : v.extractLsb' 200 64 ++ v.extractLsb' 136 64 = v.extractLsb' 136 128 :=
    BitVec.extractLsb'_append_extractLsb'_eq_extractLsb' rfl
  have h31 : v.extractLsb' 136 128 ++ v.extractLsb' 72 64 = v.extractLsb' 72 192 :=
    BitVec.extractLsb'_append_extractLsb'_eq_extractLsb' rfl
  have h30 : v.extractLsb' 72 192 ++ v.extractLsb' 8 64 = v.extractLsb' 8 256 :=
    BitVec.extractLsb'_append_extractLsb'_eq_extractLsb' rfl
  calc (Request.ofVector v).toVector
    _ = v.extractLsb' 200 64 ++ v.extractLsb' 136 64 ++ v.extractLsb' 72 64 ++ v.extractLsb' 8 64 ++ v.extractLsb' 0 8 := rfl
    _ = v.extractLsb' 8 256 ++ v.extractLsb' 0 8 := by rw [h32, h31, h30]
    _ = v := BitVec.extractLsb'_append_extractLsb'

/-- Settles O3: the fields are read back at their places, and the vector is their concatenation. -/
theorem requestVectorHoldsTheFields : Obligations.RequestVectorHoldsTheFields := by
  refine ⟨fun r => ?_, toVector_ofVector⟩
  obtain ⟨hop, h0, h1, h2, h3⟩ := extractLsb'_toVector r
  exact ⟨hop, h0, h1, h2, h3, by rw [Request.ofVector, hop, h0, h1, h2, h3]⟩

/-! ### Ignored operand bits (R66) -/

/-- R66: the bits that an opcode does not ignore are all that the decoder reads of the words, form by form. -/
theorem decode_congr {r r' : Request} (hop : r.op = r'.op)
    (h1 : r.ignoresW1 = true ∨ r.w1 = r'.w1) (h2 : r.ignoresW2 = true ∨ r.w2 = r'.w2) (h3 : r.ignoresW3 = true ∨ r.w3 = r'.w3)
    (hhigh : r.ignoresW0High = true ∨ r.w0.extractLsb' 32 32 = r'.w0.extractLsb' 32 32)
    (hlow : r.ignoresW0Low = true ∨ r.w0.extractLsb' 0 32 = r'.w0.extractLsb' 0 32) : decode r = decode r' := by
  unfold decode
  rw [← hop]
  split
  case h_31 => rfl
  all_goals
    rename_i hcode
    simp only [Request.ignoresW1, Request.ignoresW2, Request.ignoresW3, Request.ignoresW0High, Request.ignoresW0Low, hcode,
      BitVec.reduceEq, BitVec.reduceToNat, Nat.reduceLeDiff, decide_true, decide_false, Bool.or_self, Bool.or_true, Bool.and_self,
      Bool.false_eq_true, false_or, true_or, Bool.false_and, Bool.and_false] at h1 h2 h3 hhigh hlow
  case h_22 => simp [Request.single, hlow] -- S
  case h_23 => simp [Request.double, eq_of_halves hhigh hlow] -- D
  case h_6 | h_7 | h_8 | h_9 => simp [Request.operandA, Request.count, eq_of_halves hhigh hlow, h1, h2] -- WC
  case h_24 | h_25 | h_26 | h_27 | h_28 | h_29 => simp [Request.operandA, eq_of_halves hhigh hlow, h1] -- Q
  case h_30 => rfl -- no operand
  all_goals simp [Request.operandA, Request.operandB, eq_of_halves hhigh hlow, h1, h2, h3] -- WW, QQ

/-- Settles O5: the decoder gives the two requests the same operation (`decode_congr`), and a reserved opcode aborts whatever the
words. -/
theorem ignoredOperandBitsDoNotMatter : Obligations.IgnoredOperandBitsDoNotMatter := by
  rintro r r' hop (hres | ⟨h1, h2, h3, hhigh, hlow⟩)
  · have hres' : r'.opReserved = true := by simpa [Request.opReserved, hop] using hres
    rw [(outcome_eq_illegalOp_iff r).2 hres, (outcome_eq_illegalOp_iff r').2 hres']
  · rw [outcome, outcome, decode_congr hop h1 h2 h3 hhigh hlow]

/-! ### The opcode map (R61, R64) -/

/-- R64, R69: the rows of the map and the reserved ranges share out the 256 opcode bytes. -/
theorem opRow?_isSome_iff (r : Request) : (opRow? r.op).isSome = true ↔ r.opReserved = false := by
  have h : ∀ op : OpByte, (opRow? op).isSome = !(⟨op, 0, 0, 0, 0⟩ : Request).opReserved := by
    decide +kernel
  rw [h, Bool.not_eq_true']
  rfl

/-- Settles O6: the map lists what is not reserved (`opRow?_isSome_iff`), which is what decodes (`decode_eq_error_iff`). -/
theorem opcodeMapListsWhatDecodes : Obligations.OpcodeMapListsWhatDecodes := by
  refine ⟨rfl, by decide, by decide, fun r => ?_⟩
  rw [opRow?_isSome_iff, ← Bool.not_eq_true, ← decode_eq_error_iff]
  cases hdec : decode r with
  | ok i => simp
  | error e => simp [decode_error_op hdec]

/-- Settles O7: each word is decoded by evaluation. -/
theorem sampleRequestsDecode : Obligations.SampleRequestsDecode := by
  unfold Obligations.SampleRequestsDecode
  decide

end Sys2Proof
end

section
/-! The step, the queue and reset (10_state.md, 70_reset_and_hazards.md): no step stops, so a step is a function of the state and a run its
iterate; the invariant; the order of the responses. -/

namespace Sys2Proof.Machine

/-! ### The next state -/

/-- The state that a clock edge leads to: a reset, or the edge and the outcome of the request that it makes due. -/
def State.succ (s : State) : State :=
  if s.ins.rst then s.takeReset
  else
    match s.edge.due with
    | none => s.edge
    | some r => s.edge.present (outcome r)

/-- R15: every step leads to the next state. -/
theorem step_eq_succ (s : State) : step s = .next s.succ := by
  rcases step_cases s with ⟨hrst, h⟩ | ⟨hrst, hdue, h⟩ | ⟨hrst, r, hdue, h⟩
  · rw [h, State.succ, if_pos hrst]
  · simp [h, State.succ, hrst, hdue]
  · simp [h, State.succ, hrst, hdue]

/-- A run is the iterate of the next state. -/
theorem runsTo_iff (n : Nat) (s t : State) : RunsTo n s t ↔ State.succ^[n] s = t := by
  induction n generalizing s with
  | zero => exact Host.Outcome.next.injEq s t ▸ Iff.rfl
  | succ n ih =>
    rw [Function.iterate_succ_apply, ← ih]
    simp only [RunsTo, Host.Core.run]
    rw [show core.step s = .next s.succ from step_eq_succ s]

theorem State.succ_of_reset {s : State} (h : s.ins.rst = true) : s.succ = s.takeReset := if_pos h

theorem State.succ_of_not_due {s : State} (hrst : s.ins.rst = false) (hdue : s.edge.due = none) : s.succ = s.edge := by
  simp [State.succ, hrst, hdue]

theorem State.succ_of_due {s : State} {r : Request} (hrst : s.ins.rst = false) (hdue : s.edge.due = some r) :
    s.succ = s.edge.present (outcome r) := by
  simp [State.succ, hrst, hdue]

/-- Without reset, the next state is the edge but for the response signals. -/
theorem State.succ_cases {s : State} (hrst : s.ins.rst = false) :
    (s.edge.due = none ∧ s.succ = s.edge) ∨ ∃ r, s.edge.due = some r ∧ s.succ = s.edge.present (outcome r) := by
  cases hdue : s.edge.due with
  | none => exact .inl ⟨rfl, s.succ_of_not_due hrst hdue⟩
  | some r => exact .inr ⟨r, rfl, s.succ_of_due hrst hdue⟩

/-- Every cycle takes the host's next signals from the script. -/
@[simp] theorem State.succ_ins (s : State) : s.succ.ins = s.script.headD Inputs.idle := by
  unfold State.succ
  split
  · rfl
  · split <;> simp

@[simp] theorem State.succ_script (s : State) : s.succ.script = s.script.tail := by
  unfold State.succ
  split
  · rfl
  · split <;> simp

section
variable {s : State} (hrst : s.ins.rst = false)
include hrst

theorem State.succ_inflight : s.succ.inflight = s.edge.inflight := by
  obtain ⟨-, h⟩ | ⟨r, -, h⟩ := State.succ_cases hrst <;> simp [h]

theorem State.succ_reqReady : s.succ.reqReady = s.edge.reqReady := by
  obtain ⟨-, h⟩ | ⟨r, -, h⟩ := State.succ_cases hrst <;> simp [h]

theorem State.succ_readyBy : s.succ.readyBy = s.edge.readyBy := by
  obtain ⟨-, h⟩ | ⟨r, -, h⟩ := State.succ_cases hrst <;> simp [h]

end

/-! ### Runs without reset -/

/-- No reset in the next `n + 1` cycles: none in this one and none in the `n` that follow. -/
theorem State.noReset_succ (n : Nat) (s : State) : s.noReset (n + 1) = true ↔ s.ins.rst = false ∧ s.succ.noReset n = true := by
  have hnext : s.succ.noReset n = (s.script.take n).all fun x => !x.rst := by
    unfold State.noReset
    rw [State.succ_ins, State.succ_script]
    cases s.script with
    | nil => cases n <;> simp [Inputs.idle]
    | cons x xs => rfl
  rw [hnext, State.noReset, List.take_succ_cons, List.all_cons, Bool.and_eq_true, Bool.not_eq_true']

theorem acceptedOver_succ (n : Nat) (s : State) :
    acceptedOver (n + 1) s = (if s.accepting then [s.ins.req] else []) ++ acceptedOver n s.succ := by
  rw [acceptedOver, step_eq_succ]

theorem deliveredOver_succ (n : Nat) (s : State) :
    deliveredOver (n + 1) s = (if s.delivering then s.presented.toList else []) ++ deliveredOver n s.succ := by
  rw [deliveredOver, step_eq_succ]

/-! ### The invariant -/

theorem State.reqReady_of_accepting {s : State} (h : s.accepting = true) : s.reqReady = true := by
  simp_all [State.accepting]

theorem State.rspValid_of_delivering {s : State} (h : s.delivering = true) : s.rspValid = true := by
  simp_all [State.delivering]

/-- R29: the queue after an edge, in terms of what delivery leaves of it. -/
theorem State.edge_inflight_eq (s : State) :
    s.edge.inflight = s.retire.inflight.map (fun e => ⟨e.req, e.wait - 1⟩) ++
      (if s.accepting then [⟨s.ins.req, lat s.ins.req.op - 1⟩] else []) := by
  rw [State.edge_inflight, State.retire_inflight]

/-- R29: delivery leaves requests that were in flight, in their order. -/
theorem State.retire_inflight_sublist (s : State) : s.retire.inflight.Sublist s.inflight := by
  rw [State.retire_inflight]
  split
  · exact List.tail_sublist _
  · exact List.Sublist.refl _

theorem State.takeReset_inv (s : State) : s.takeReset.Inv :=
  ⟨Nat.zero_le _, fun _ => depth_pos, by simp, by simp⟩

theorem State.Inv.edge_fits {s : State} (h : s.Inv) : s.edge.inflight.length ≤ Config.depth := by
  have hkept : s.retire.inflight.length ≤ s.inflight.length := s.retire_inflight_sublist.length_le
  rw [State.edge_inflight_eq, List.length_append, List.length_map]
  split
  next hacc => exact Nat.succ_le_of_lt (hkept.trans_lt (h.room (State.reqReady_of_accepting hacc)))
  next => exact hkept.trans h.fits

theorem State.Inv.edge_waits {s : State} (h : s.Inv) : ∀ e ∈ s.edge.inflight, e.wait < lat e.req.op := by
  intro e he
  rw [State.edge_inflight_eq, List.mem_append, List.mem_map] at he
  obtain ⟨e', he', rfl⟩ | he := he
  · exact (Nat.sub_le _ _).trans_lt (h.waits e' (s.retire_inflight_sublist.subset he'))
  · split at he
    · obtain rfl := List.mem_singleton.1 he
      exact Nat.sub_lt (lat_pos _) one_pos
    · exact absurd he List.not_mem_nil

/-- R30: a response that the edge keeps is still that of the oldest request. -/
theorem State.Inv.edge_answered {s : State} (h : s.Inv) (hvalid : s.edge.rspValid = true) :
    ∃ e es, s.edge.inflight = e :: es ∧ s.edge.presented = some (outcome e.req) := by
  obtain ⟨hs, hd⟩ : s.rspValid = true ∧ s.delivering = false := by simpa [State.edge_rspValid] using hvalid
  obtain ⟨e, es, hqueue, hpresented⟩ := h.answered hs
  have hhead : s.edge.inflight = ⟨e.req, e.wait - 1⟩ :: (es.map (fun e => ⟨e.req, e.wait - 1⟩) ++
      if s.accepting then [⟨s.ins.req, lat s.ins.req.op - 1⟩] else []) := by
    rw [State.edge_inflight, hd, hqueue]
    rfl
  exact ⟨_, _, hhead, (State.edge_presented hvalid).trans hpresented⟩

theorem State.Inv.edge {s : State} (h : s.Inv) : s.edge.Inv :=
  ⟨h.edge_fits, State.edge_room, h.edge_waits, h.edge_answered⟩

/-- R31: presenting the outcome of the due request keeps the invariant. -/
theorem State.Inv.present {s : State} (h : s.Inv) {r : Request} (hdue : s.due = some r) : (s.present (outcome r)).Inv := by
  obtain ⟨-, es, hqueue⟩ := State.due_eq_some.1 hdue
  exact ⟨by simpa using h.fits, by simpa using h.room, by simpa using h.waits,
    fun _ => ⟨⟨r, 0⟩, es, by simpa using hqueue, State.presented_present _ _⟩⟩

/-- Every cycle keeps the invariant. -/
theorem State.Inv.succ {s : State} (h : s.Inv) : s.succ.Inv := by
  cases hrst : s.ins.rst with
  | true => exact State.succ_of_reset hrst ▸ s.takeReset_inv
  | false =>
    obtain ⟨-, hsucc⟩ | ⟨r, hdue, hsucc⟩ := State.succ_cases hrst
    · exact hsucc ▸ h.edge
    · exact hsucc ▸ h.edge.present hdue

/-- Settles O12: a reset leaves an empty queue; otherwise the edge keeps the invariant, and so does presenting the due request's outcome. -/
theorem everyStepKeepsTheInvariant : Obligations.EveryStepKeepsTheInvariant := by
  intro s t hs hstep
  rw [step_eq_succ] at hstep
  exact Host.Outcome.next.inj hstep ▸ hs.succ

/-- Settles O11: no request is in flight and neither port is up, so only `DEPTH` and `LAT` being numbers is asked. -/
theorem resetStateMeetsTheInvariant : Obligations.ResetStateMeetsTheInvariant :=
  ⟨rfl, rfl, rfl, Nat.zero_le _, fun h => Bool.noConfusion h, fun _ h => absurd h List.not_mem_nil, fun h => Bool.noConfusion h⟩

/-! ### Order of the responses (R31) -/

/-- R31, in one cycle: what is delivered leaves the front of the queue, what is accepted joins its end. -/
theorem State.Inv.conserve {s : State} (h : s.Inv) (hrst : s.ins.rst = false) :
    s.pendingOutcomes ++ (if s.accepting then [outcome s.ins.req] else []) =
      (if s.delivering then s.presented.toList else []) ++ s.succ.pendingOutcomes := by
  have hnext : s.succ.pendingOutcomes =
      s.retire.pendingOutcomes ++ if s.accepting then [outcome s.ins.req] else [] := by
    rw [State.pendingOutcomes, State.succ_inflight hrst, State.edge_inflight_eq, List.map_append, List.map_map, apply_ite (List.map _)]
    rfl
  have hkept : s.pendingOutcomes = (if s.delivering then s.presented.toList else []) ++ s.retire.pendingOutcomes := by
    rw [State.pendingOutcomes, State.pendingOutcomes, State.retire_inflight]
    split
    next hdel =>
      obtain ⟨e, es, hqueue, hpresented⟩ := h.answered (State.rspValid_of_delivering hdel)
      simp [hqueue, hpresented]
    next => rfl
  rw [hnext, hkept, List.append_assoc]

/-- R31, over a run: the cycles' queues one after the other. -/
theorem State.Inv.conserve_over {s : State} (n : Nat) (h : s.Inv) (hrst : s.noReset n = true) :
    s.pendingOutcomes ++ (acceptedOver n s).map outcome = deliveredOver n s ++ (State.succ^[n] s).pendingOutcomes := by
  induction n generalizing s with
  | zero => simp [acceptedOver, deliveredOver]
  | succ n ih =>
    obtain ⟨hnow, hlater⟩ := (State.noReset_succ n s).1 hrst
    have hone : (if s.accepting then [s.ins.req] else []).map outcome = if s.accepting then [outcome s.ins.req] else [] := by
      split <;> rfl
    rw [acceptedOver_succ, deliveredOver_succ, Function.iterate_succ_apply, List.map_append, hone, ← List.append_assoc,
      h.conserve hnow, List.append_assoc, List.append_assoc, ih h.succ hlater]

/-- Settles O13: a run is an iterate (`runsTo_iff`), over which requests are conserved in order. -/
theorem responsesComeInRequestOrder : Obligations.ResponsesComeInRequestOrder := by
  intro n s t hs hrst hrun
  rw [runsTo_iff] at hrun
  exact hrun ▸ hs.conserve_over n hrst

/-- Settles O9: the next state is `State.succ`. -/
theorem everyStepHasANextState : Obligations.EveryStepHasANextState := fun s => ⟨s.succ, step_eq_succ s⟩

/-- Settles O10: `rst` gates both ports, and after the reset the requests accepted are conserved from an empty queue. -/
theorem resetDropsRequestsInFlight : Obligations.ResetDropsRequestsInFlight := by
  intro s hrst
  refine ⟨by simp [State.accepting, hrst], by simp [State.delivering, hrst], by simp [State.reqReadyOut, hrst],
    by simp [State.rspValidOut, hrst], s.takeReset, by rw [step_eq_succ, State.succ_of_reset hrst], rfl, rfl, fun n hn => ?_⟩
  exact ⟨_, (s.takeReset_inv.conserve_over n hn).symm⟩

end Sys2Proof.Machine
end

section
/-! Time (70_reset_and_hazards.md section 4): every part of a cycle can be followed on the timing of the state alone, so that operand words
and results change no handshake and no wait. -/

namespace Sys2Proof.Machine

/-- What an observer of time sees after `f` depends on what he sees before it. -/
def RespectsTiming (f : State → State) : Prop := ∀ s : State, (f s.timing).timing = (f s).timing

theorem RespectsTiming.eq {f : State → State} (hf : RespectsTiming f) {s u : State} (h : s.timing = u.timing) :
    (f s).timing = (f u).timing := by
  rw [← hf s, h, hf u]

theorem RespectsTiming.comp {f g : State → State} (hg : RespectsTiming g) (hf : RespectsTiming f) :
    RespectsTiming fun s => g (f s) := fun s => hg.eq (hf s)

/-! ### What the timing of a state keeps (R313) -/

@[simp] theorem State.timing_timing (s : State) : s.timing.timing = s.timing := by
  simp [State.timing, Function.comp_def, Inputs.eraseWords, withoutWords]

@[simp] theorem State.timing_delivering (s : State) : s.timing.delivering = s.delivering := rfl
@[simp] theorem State.timing_accepting (s : State) : s.timing.accepting = s.accepting := rfl
@[simp] theorem State.timing_readyByNext (s : State) : s.timing.readyByNext = s.readyByNext := rfl
@[simp] theorem State.timing_rst (s : State) : s.timing.ins.rst = s.ins.rst := rfl

theorem State.timing_ops (s : State) : s.timing.inflight.map (·.req.op) = s.inflight.map (·.req.op) := by
  simp [State.timing, withoutWords]

/-! ### The parts of a cycle -/

/-- A part of the cycle that commutes with erasing operand words and response signals. -/
theorem RespectsTiming.of_commutes {f : State → State} (h : ∀ s : State, f s.timing = (f s).timing) : RespectsTiming f :=
  fun s => by rw [h, State.timing_timing]

theorem respectsTiming_retire : RespectsTiming State.retire := by
  refine .of_commutes fun s => ?_
  unfold State.retire
  rw [State.timing_delivering]
  split
  · simp [State.timing]
  · rfl

theorem respectsTiming_age : RespectsTiming State.age := .of_commutes fun s => by simp [State.timing, State.age]

theorem respectsTiming_enqueue : RespectsTiming State.enqueue := by
  refine .of_commutes fun s => ?_
  unfold State.enqueue
  rw [State.timing_accepting]
  split
  · simp [State.timing, withoutWords, Inputs.eraseWords]
  · rfl

theorem respectsTiming_floatResponse : RespectsTiming State.floatResponse := by
  intro s
  cases h : s.rspValid
  all_goals simp [State.floatResponse, State.timing, h, Function.comp_def, Inputs.eraseWords, withoutWords]

theorem respectsTiming_driveReady : RespectsTiming State.driveReady := by
  refine .of_commutes fun s => ?_
  unfold State.driveReady
  rw [State.timing_ops, State.timing_readyByNext]
  simp [State.timing]

theorem respectsTiming_nextInputs : RespectsTiming State.nextInputs := by
  refine .of_commutes fun s => ?_
  cases h : s.script
  all_goals simp [State.nextInputs, State.timing, h, Inputs.eraseWords, Inputs.idle, withoutWords]

theorem respectsTiming_takeReset : RespectsTiming State.takeReset := by
  intro s
  cases h : s.script
  all_goals simp [State.takeReset, State.timing, h, Inputs.eraseWords, Inputs.idle, withoutWords]

/-- An edge respects timing, as its parts do. -/
theorem respectsTiming_edge : RespectsTiming State.edge :=
  respectsTiming_nextInputs.comp <| respectsTiming_driveReady.comp <| respectsTiming_floatResponse.comp <|
    respectsTiming_enqueue.comp <| respectsTiming_age.comp respectsTiming_retire

/-- R313: the operand words of the due request are all that its presenting takes from it. -/
theorem State.timing_present (r : Result) (s : State) : (s.present r).timing = { s.timing with rspValid := true } := by
  cases r <;> rfl

/-- R311: whether a request is due is seen in the waits. -/
theorem State.due_timing (s : State) : s.timing.due = s.due.map withoutWords := by
  unfold State.due
  cases hv : s.rspValid with
  | true => simp [State.timing, hv]
  | false => cases hq : s.inflight <;> simp [State.timing, hv, hq]

theorem State.isSome_due_eq {s u : State} (h : s.timing = u.timing) : s.due.isSome = u.due.isSome := by
  rw [← Option.isSome_map (f := withoutWords), ← State.due_timing, h, State.due_timing, Option.isSome_map]

/-- R311, R313: one cycle of two machines that differ in operand words and results only. -/
theorem State.timing_succ {s u : State} (h : s.timing = u.timing) : s.succ.timing = u.succ.timing := by
  have hrst : s.ins.rst = u.ins.rst := congrArg (·.ins.rst) h
  have hedge : s.edge.timing = u.edge.timing := respectsTiming_edge.eq h
  have hdue : s.edge.due.isSome = u.edge.due.isSome := State.isSome_due_eq hedge
  cases hr : u.ins.rst with
  | true =>
    rw [State.succ_of_reset hr, State.succ_of_reset (hrst.trans hr)]
    exact respectsTiming_takeReset.eq h
  | false =>
    obtain ⟨hu, hsucc⟩ | ⟨r, hu, hsucc⟩ := State.succ_cases hr
    · rw [hsucc, State.succ_of_not_due (hrst.trans hr) (by simpa [hu] using hdue), hedge]
    · obtain ⟨r', hs⟩ := Option.isSome_iff_exists.1 (hdue.trans (by rw [hu]; rfl))
      rw [hsucc, State.succ_of_due (hrst.trans hr) hs, State.timing_present, State.timing_present, hedge]

/-- Settles O16: both machines run (`runsTo_iff`), and every cycle keeps their timing equal. -/
theorem timeDoesNotDependOnOperands : Obligations.TimeDoesNotDependOnOperands := by
  intro n s u h
  refine ⟨State.succ^[n] s, State.succ^[n] u, (runsTo_iff n s _).2 rfl, (runsTo_iff n u _).2 rfl, ?_⟩
  induction n with
  | zero => exact h
  | succ n ih =>
    rw [Function.iterate_succ_apply', Function.iterate_succ_apply']
    exact State.timing_succ ih

end Sys2Proof.Machine
end

section
/-! The due request, latency and progress (10_state.md, 70_reset_and_hazards.md), and what an operation presents (60_exceptions.md). -/

namespace Sys2Proof.Machine

/-- R21: with nothing to present, a step is the edge alone. -/
theorem step_of_not_due {s : State} (hrst : s.ins.rst = false) (hdue : s.edge.due = none) : step s = .next s.edge := by
  rw [step_eq_succ, State.succ_of_not_due hrst hdue]

/-- R31: the due request that decodes is executed. -/
theorem step_of_due_decode {s : State} {r : Request} {i : Instr} (hrst : s.ins.rst = false) (hdue : s.edge.due = some r)
    (hdec : decode r = .ok i) : step s = exec i s.edge := by
  rw [step_of_due hrst hdue, outcome_of_decode hdec, exec_eq_answer, answer]

/-- Log entry 3: the placed request stays at the head of the queue. -/
theorem State.withRequest_edge_inflight (s : State) (r : Request) :
    ∃ es, (s.withRequest r).edge.inflight = ⟨r, 0⟩ :: es :=
  ⟨_, (s.withRequest r).edge_inflight⟩

/-- Log entry 3: and is due. -/
theorem State.withRequest_edge_due (s : State) (r : Request) : (s.withRequest r).edge.due = some r :=
  State.due_eq_some.2 ⟨by simp [State.edge_rspValid], s.withRequest_edge_inflight r⟩

/-- Settles O8: the step presents the outcome of the due request, which is what `exec` does; a placed request is due. -/
theorem stepExecutesTheDueRequest : Obligations.StepExecutesTheDueRequest := by
  refine ⟨fun s r i => step_of_due_decode, fun s => step_of_not_due, fun s r i hdec => ?_⟩
  obtain ⟨es, hqueue⟩ := s.withRequest_edge_inflight r
  exact ⟨step_of_due_decode rfl (s.withRequest_edge_due r) hdec, by rw [hqueue]; rfl⟩

/-! ### A response that waits (R30) -/

/-- Settles O17: an untaken response stays valid over the edge, so nothing is due and the signals are held. -/
theorem responseIsHeldUntilTaken : Obligations.ResponseIsHeldUntilTaken := by
  intro s hvalid hready hrst
  have hdel : s.delivering = false := by simp [State.delivering, hready]
  have hkept : s.edge.rspValid = true := by simp [State.edge_rspValid, hvalid, hdel]
  have hdue : s.edge.due = none := by simp [State.due, hkept]
  refine ⟨s.edge, step_of_not_due hrst hdue, hkept, ?_, ?_, ?_, ?_, State.edge_presented hkept⟩
  all_goals simp [State.edge, State.floatResponse_rspStatus, State.floatResponse_rspCause, State.floatResponse_rspRLo,
    State.floatResponse_rspRHi, State.retire_rspValid, hdel, hvalid]

/-! ### Latency (R311) -/

/-- The oldest request in flight is `r`, its response is presented if `w` is 0 and otherwise `w` cycles away. -/
structure State.HeadWaits (r : Request) (w : Nat) (s : State) : Prop where
  head : ∃ es, s.inflight = ⟨r, w⟩ :: es
  quiet : w ≠ 0 → s.rspValid = false
  shown : w = 0 → s.presented = some (outcome r)

/-- R311: after an edge that leaves no response waiting, the oldest request is presented or waits on. -/
theorem State.headWaits_succ {s : State} {r : Request} {w : Nat} {es : List Entry} (hrst : s.ins.rst = false)
    (hqueue : s.edge.inflight = ⟨r, w⟩ :: es) (hvalid : s.edge.rspValid = false) : s.succ.HeadWaits r w := by
  have hhead : ∃ es, s.succ.inflight = ⟨r, w⟩ :: es := ⟨es, by rw [State.succ_inflight hrst, hqueue]⟩
  rcases Nat.eq_zero_or_pos w with rfl | hw
  · have hdue : s.edge.due = some r := State.due_eq_some.2 ⟨hvalid, es, hqueue⟩
    refine ⟨hhead, fun h => absurd rfl h, fun _ => ?_⟩
    rw [State.succ_of_due hrst hdue, State.presented_present]
  · have hdue : s.edge.due = none := by simp [State.due, hvalid, hqueue, hw.ne']
    refine ⟨hhead, fun _ => ?_, fun h => absurd h hw.ne'⟩
    rw [State.succ_of_not_due hrst hdue, hvalid]

theorem State.HeadWaits.succ {s : State} {r : Request} {w : Nat} (h : s.HeadWaits r (w + 1)) (hrst : s.ins.rst = false) :
    s.succ.HeadWaits r w := by
  obtain ⟨es, hqueue⟩ := h.head
  have hvalid : s.rspValid = false := h.quiet (Nat.succ_ne_zero w)
  have hdel : s.delivering = false := by simp [State.delivering, hvalid]
  exact State.headWaits_succ hrst (by rw [State.edge_inflight, hdel, hqueue]; rfl) (by simp [State.edge_rspValid, hvalid])

theorem State.noReset_of_le {s : State} {m n : Nat} (hmn : m ≤ n) (h : s.noReset n = true) : s.noReset m = true := by
  unfold State.noReset at *
  rw [List.all_eq_true] at *
  exact fun x hx => h x (List.take_subset_take_left _ hmn hx)

theorem State.HeadWaits.iterate {s : State} {r : Request} {w : Nat} (k : Nat) (h : s.HeadWaits r (w + k)) (hrst : s.noReset k = true) :
    (State.succ^[k] s).HeadWaits r w := by
  induction k generalizing s with
  | zero => exact h
  | succ k ih =>
    obtain ⟨hnow, hlater⟩ := (State.noReset_succ k s).1 hrst
    exact ih (h.succ hnow) hlater

/-- R311: a request accepted with no earlier one in flight waits out the rest of its latency. -/
theorem State.Inv.headWaits_of_accepting {s : State} (h : s.Inv) (hacc : s.accepting = true) (hempty : s.retire.inflight = [])
    (hrst : s.ins.rst = false) : s.succ.HeadWaits s.ins.req (lat s.ins.req.op - 1) := by
  have hqueue : s.edge.inflight = [⟨s.ins.req, lat s.ins.req.op - 1⟩] := by
    rw [State.edge_inflight_eq, hempty, if_pos hacc]
    rfl
  refine State.headWaits_succ hrst hqueue (Bool.not_eq_true _ ▸ fun hvalid => ?_)
  obtain ⟨hs, hdel⟩ : s.rspValid = true ∧ s.delivering = false := by simpa [State.edge_rspValid] using hvalid
  obtain ⟨e, es, hpending, -⟩ := h.answered hs
  simp [State.retire_inflight, hdel, hpending] at hempty

/-- Settles O14: the accepted request is alone in flight, `LAT(op) - 1` cycles from its response, and comes one nearer in each
(`State.HeadWaits.iterate`). -/
theorem latencyIsThatOfTheOpcode : Obligations.LatencyIsThatOfTheOpcode := by
  intro s hs hacc hempty hrst
  obtain ⟨d, hd⟩ : ∃ d, lat s.ins.req.op = d + 1 := Nat.exists_eq_succ_of_ne_zero (lat_pos _).ne'
  rw [hd] at hrst ⊢
  obtain ⟨hnow, hlater⟩ := (State.noReset_succ d s).1 hrst
  have hwaits : s.succ.HeadWaits s.ins.req d := by simpa [hd] using hs.headWaits_of_accepting hacc hempty hnow
  have hafter (k : Nat) (hk : k ≤ d) : (State.succ^[k + 1] s).HeadWaits s.ins.req (d - k) :=
    .iterate k (by rwa [Nat.sub_add_cancel hk]) (State.noReset_of_le hk hlater)
  constructor
  · intro k t hk hkd hrun
    obtain ⟨j, rfl⟩ := Nat.exists_eq_add_of_le' hk
    rw [← (runsTo_iff _ _ _).1 hrun]
    exact (hafter j (by omega)).quiet (by omega)
  · exact ⟨_, (runsTo_iff _ _ _).2 rfl, (hafter d le_rfl).shown (Nat.sub_self d)⟩

/-! ### Every request is answered (R31) -/

/-- The host has nothing left to say: it is idle from now on. -/
def State.HostIdle (s : State) : Prop := s.ins = Inputs.idle ∧ s.script = []

theorem State.HostIdle.succ {s : State} (h : s.HostIdle) : s.succ.HostIdle := by
  simp [State.HostIdle, h.2]

theorem State.HostIdle.rst {s : State} (h : s.HostIdle) : s.ins.rst = false := by rw [h.1]; rfl

/-- A bound on the cycles that requests still take: each waits, is presented and is taken. -/
def load (es : List Entry) : Nat := (es.map fun e => e.wait + 2).sum

@[simp] theorem load_cons (e : Entry) (es : List Entry) : load (e :: es) = e.wait + 2 + load es := by simp [load]

theorem load_age_le (es : List Entry) : load (es.map fun e => ⟨e.req, e.wait - 1⟩) ≤ load es := by
  induction es with
  | nil => exact le_rfl
  | cons e es ih => simp only [List.map_cons, load_cons]; omega

/-- The load of the queue, and one cycle more where no response is presented yet. -/
def State.work (s : State) : Nat := load s.inflight + if s.rspValid then 0 else 1

/-- The host's script ends. -/
theorem State.hostIdle_after_script (s : State) : (State.succ^[s.script.length + 1] s).HostIdle := by
  induction hn : s.script.length generalizing s with
  | zero => simp [State.HostIdle, List.length_eq_zero_iff.1 hn]
  | succ n ih =>
    rw [Function.iterate_succ_apply]
    exact ih s.succ (by simp [hn])

/-- R31: before an idle host the work in flight becomes less in every cycle: a presented response is taken, or the oldest request comes
nearer to its own. -/
theorem State.work_succ_lt {s : State} (hidle : s.HostIdle) (hpending : s.inflight ≠ []) : s.succ.work < s.work := by
  have hacc : s.accepting = false := by simp [State.accepting, hidle.1, Inputs.idle]
  have hrst := hidle.rst
  obtain ⟨e, es, hqueue⟩ := List.exists_cons_of_ne_nil hpending
  have hes := load_age_le es
  cases hvalid : s.rspValid with
  | true => -- delivered
    have hdel : s.delivering = true := by simp [State.delivering, hidle.1, Inputs.idle, hvalid]
    have hnext : s.succ.inflight = es.map fun e => ⟨e.req, e.wait - 1⟩ := by
      simp [State.succ_inflight hrst, State.edge_inflight, hdel, hacc, hqueue]
    simp only [State.work, hnext, hqueue, hvalid, load_cons, if_true]
    split <;> omega
  | false =>
    have hdel : s.delivering = false := by simp [State.delivering, hvalid]
    have hedge : s.edge.inflight = ⟨e.req, e.wait - 1⟩ :: es.map fun e => ⟨e.req, e.wait - 1⟩ := by
      simp [State.edge_inflight, hdel, hacc, hqueue]
    have hwaits := State.headWaits_succ hrst hedge (by simp [State.edge_rspValid, hvalid])
    rcases Nat.eq_zero_or_pos (e.wait - 1) with hw | hw
    · have hshown : s.succ.rspValid = true := by
        by_contra hno
        simpa [State.presented, hno] using hwaits.shown hw
      simp only [State.work, State.succ_inflight hrst, hedge, hqueue, hvalid, hshown, load_cons, if_true, Bool.false_eq_true, if_false]
      omega
    · simp only [State.work, State.succ_inflight hrst, hedge, hqueue, hvalid, hwaits.quiet hw.ne', load_cons, Bool.false_eq_true, if_false]
      omega

/-- R31: an idle host sees the queue run empty. -/
theorem State.HostIdle.runs_empty {s : State} (hidle : s.HostIdle) : ∃ n, (State.succ^[n] s).inflight = [] := by
  induction hw : s.work using Nat.strong_induction_on generalizing s with
  | _ w ih =>
    by_cases hempty : s.inflight = []
    · exact ⟨0, hempty⟩
    · obtain ⟨n, hn⟩ := ih _ (hw ▸ State.work_succ_lt hidle hempty) hidle.succ rfl
      exact ⟨n + 1, hn⟩

theorem State.noReset_of_forall {s : State} (h : ∀ x ∈ s.ins :: s.script, x.rst = false) (n : Nat) : s.noReset n = true := by
  rw [State.noReset, List.all_eq_true]
  exact fun x hx => by simp [h x (List.mem_of_mem_take hx)]

/-- Settles O15: when the script has run out the idle host empties the queue, and then conservation says that what was delivered begins
with the outcomes pending at the start. -/
theorem everyRequestIsAnswered : Obligations.EveryRequestIsAnswered := by
  intro s hs hrst
  obtain ⟨n, hn⟩ := s.hostIdle_after_script.runs_empty
  rw [← Function.iterate_add_apply] at hn
  refine ⟨n + (s.script.length + 1), ?_⟩
  have hconserve := hs.conserve_over _ (State.noReset_of_forall hrst (n + (s.script.length + 1)))
  have hlast : (State.succ^[n + (s.script.length + 1)] s).pendingOutcomes = [] := by rw [State.pendingOutcomes, hn]; rfl
  rw [hlast, List.append_nil] at hconserve
  exact ⟨_, hconserve⟩

/-! ### `req_ready` after reset (R302) -/

/-- After a reset: nothing is in flight, no reset follows, and `req_ready` may stay 0 for `k` cycles more. -/
structure State.Recovering (k : Nat) (s : State) : Prop where
  empty : s.inflight = []
  noReset : ∀ n, s.noReset n = true
  within : s.readyBy = some k

section
variable {k : Nat} {s : State} (h : s.Recovering k) (hready : s.reqReady = false)
include h hready

theorem State.Recovering.edge_inflight : s.edge.inflight = [] := by
  have hacc : s.accepting = false := by simp [State.accepting, hready]
  simp [State.edge_inflight, hacc, h.empty]

/-- R302: one cycle in which `req_ready` was 0 uses up one of the `k`. -/
theorem State.Recovering.succ : s.succ.Recovering (k - 1) := by
  obtain ⟨hrst, -⟩ := (State.noReset_succ 0 s).1 (h.noReset 1)
  refine ⟨by rw [State.succ_inflight hrst, h.edge_inflight hready], fun n => ((State.noReset_succ n s).1 (h.noReset (n + 1))).2, ?_⟩
  rw [State.succ_readyBy hrst]
  simp [State.edge, State.readyByNext, hready, h.within]

/-- R302: when the last of them is used up, `req_ready` is 1, since the empty queue has room. -/
theorem State.Recovering.reqReady_succ (hk : k ≤ 1) : s.succ.reqReady = true := by
  obtain ⟨hrst, -⟩ := (State.noReset_succ 0 s).1 (h.noReset 1)
  have hroom : s.retire.age.enqueue.floatResponse.inflight = [] := by simpa [State.edge] using h.edge_inflight hready
  have hlast : s.retire.age.enqueue.floatResponse.readyByNext = some 0 := by
    simp [State.readyByNext, hready, h.within, hk]
  rw [State.succ_reqReady hrst]
  simp only [State.edge, State.nextInputs_reqReady, State.driveReady_reqReady, hroom, hlast]
  simp [depth_pos]

end

/-- R302: within those cycles `req_ready` becomes 1. -/
theorem State.Recovering.becomes_ready {k : Nat} {s : State} (h : s.Recovering k) : ∃ n, (State.succ^[n] s).reqReady = true := by
  induction k generalizing s with
  | zero =>
    cases hready : s.reqReady with
    | true => exact ⟨0, hready⟩
    | false => exact ⟨1, h.reqReady_succ hready zero_le_one⟩
  | succ k ih =>
    cases hready : s.reqReady with
    | true => exact ⟨0, hready⟩
    | false =>
      obtain ⟨n, hn⟩ := ih (h.succ hready)
      exact ⟨n + 1, hn⟩

/-- Settles O18: both states recover from a reset, within a free finite number of cycles. -/
theorem readyComesAfterReset : Obligations.ReadyComesAfterReset := by
  constructor
  · intro s hrst hlater
    have hrecovering : s.succ.Recovering (Config.readyDelay s.cycle) := by
      rw [State.succ_of_reset hrst]
      refine ⟨rfl, State.noReset_of_forall ?_, rfl⟩
      cases hscript : s.script with
      | nil => simp [hscript, Inputs.idle]
      | cons x xs => simpa [hscript] using hlater
    obtain ⟨n, hn⟩ := hrecovering.becomes_ready
    exact ⟨n + 1, _, Nat.le_add_left 1 n, (runsTo_iff _ _ _).2 rfl, hn⟩
  · intro y ys hlater
    obtain ⟨n, hn⟩ := State.Recovering.becomes_ready
      (s := { State.reset with ins := y, script := ys }) ⟨rfl, State.noReset_of_forall hlater, rfl⟩
    exact ⟨n, _, (runsTo_iff _ _ _).2 rfl, hn⟩

/-! ### Outcomes (R31, R271) -/

/-- Settles O19: every meaning presents its outcome, which touches the response signals alone and can be read from them. -/
theorem everyOperationPresentsItsOutcome : Obligations.EveryOperationPresentsItsOutcome := by
  intro i s
  obtain ⟨status, cause, lo, hi, hframe⟩ := s.present_frame (resultOf i)
  refine ⟨status, cause, lo, hi, by rw [exec_eq_answer, answer, hframe], ?_⟩
  have hread := State.presented_present (resultOf i) s
  rw [hframe] at hread
  exact hread

/-- R271: the causes of the three families, and the operands with which they abort. -/
theorem cause_of_resultOf_abort {i : Instr} {c : Cause} (h : resultOf i = .abort c) :
    (c = .divideByZero ∧ ∃ a b, b = 0 ∧ (i = .divs a b ∨ i = .divu a b ∨ i = .mods a b ∨ i = .modu a b)) ∨
    (c = .invalidShiftAmount ∧ ∃ a n, 128 ≤ n.toNat ∧ (i = .lshl a n ∨ i = .lshr a n ∨ i = .ashl a n ∨ i = .ashr a n)) ∨
    (c = .conversionOutOfRange ∧ ∃ a, i = .qtoi32 a ∨ i = .qtoi64 a ∨ i = .qtou32 a ∨ i = .qtou64 a) := by
  cases i with
  | divs a b | divu a b | mods a b | modu a b =>
    obtain ⟨hb, hc⟩ := (unlessZeroDivisor_resultWide_eq_abort _ _ _).1 h
    exact .inl ⟨hc.symm, a, b, hb, by simp⟩
  | lshl a n | lshr a n | ashl a n | ashr a n =>
    obtain ⟨hn, hc⟩ := (withCount_eq_abort _ _ _).1 h
    exact .inr (.inl ⟨hc.symm, a, n, hn, by simp⟩)
  | qtoi32 a | qtoi64 a | qtou32 a | qtou64 a =>
    obtain ⟨-, hc⟩ := (convertTo_eq_abort (fun _ _ => Result.noConfusion) _ _ _ _).1 h
    exact .inr (.inr ⟨hc.symm, a, by simp⟩)
  | mul | qadd | qsub | qmul | qdiv | qeq | qne | qge | qgt | qle | qlt | qcmp | qunord | xsq | xdq | tqd | tqs | brk =>
    exact Result.noConfusion h

/-- Settles O20: status 1 is an abort's, whose code is that of its cause (`cause_of_resultOf_abort`). -/
theorem abortCausesByFamily : Obligations.AbortCausesByFamily := by
  intro i s t hexec hstatus
  rw [exec_eq_answer] at hexec
  obtain rfl := Host.Outcome.next.inj hexec
  cases hres : resultOf i with
  | ok lo hi => simp [hres, State.present] at hstatus
  | abort c =>
    have hcode : ((s.present (.abort c)).rspCause) = c.code := rfl
    rw [hcode]
    obtain ⟨rfl, hi⟩ | ⟨rfl, hi⟩ | ⟨rfl, hi⟩ := cause_of_resultOf_abort hres
    · exact .inl ⟨rfl, hi⟩
    · exact .inr (.inl ⟨rfl, hi⟩)
    · exact .inr (.inr ⟨rfl, hi⟩)

end Sys2Proof.Machine
end

section
/-! Multiply and shifts (40_wide_multiply.md, 42_wide_shifts.md): the laws of R102 and R135 and the multipliers of R103 and R104, on
`BitVec 128`. -/

namespace Sys2Proof.Machine

theorem patternOf_mul (a b : Wide) : patternOf (.mul a b) = some (a * b) := patternOf_of_resultOf (resultOf_mul a b)

/-- R102, R135: a product with a power of two is a left shift. -/
theorem mul_ofNat_two_pow (a : Wide) (n : Nat) : a * BitVec.ofNat 128 (2 ^ n) = a <<< n :=
  BitVec.eq_of_toNat_eq (by simp [Nat.shiftLeft_eq])

/-- Settles O22: MUL is the product of the ring `BitVec 128`. -/
theorem mulLaws : Obligations.MulLaws := by
  intro a b c
  have hminus : a * BitVec.allOnes 128 = -a := by
    rw [← BitVec.neg_one_eq_allOnes]
    exact mul_neg_one a
  simp only [patternOf_mul]
  refine ⟨by rw [mul_comm], ⟨_, _, rfl, rfl, by rw [mul_assoc]⟩, ⟨_, _, rfl, rfl, by rw [mul_add]⟩, ?_, ?_, by rw [hminus], ?_⟩
  · exact congrArg some (mul_one a)
  · exact congrArg some (mul_zero a)
  · intro k hk
    rw [mul_ofNat_two_pow, patternOf_of_resultOf (resultOf_lshl a (Nat.lt_succ_of_le hk))]

section
variable (a : Wide) {c : Word} (hc : c.toNat < 128)
include hc

theorem patternOf_lshl : patternOf (.lshl a c) = some (a <<< c.toNat) := patternOf_of_resultOf (resultOf_lshl a hc)
theorem patternOf_lshr : patternOf (.lshr a c) = some (a >>> c.toNat) := patternOf_of_resultOf (resultOf_lshr a hc)
theorem patternOf_ashr : patternOf (.ashr a c) = some (a.sshiftRight c.toNat) := patternOf_of_resultOf (resultOf_ashr a hc)

end

/-- R135: shifting left then right keeps the bits that were not shifted out. -/
theorem shiftLeft_ushiftRight_eq (a : Wide) {n : Nat} (hn : n < 128) :
    (a <<< n) >>> n = BitVec.ofNat 128 (a.toNat % 2 ^ (128 - n)) := by
  have hsplit : 2 ^ 128 = 2 ^ (128 - n) * 2 ^ n := by rw [← pow_add, Nat.sub_add_cancel hn.le]
  have hle : a.toNat % 2 ^ (128 - n) < 2 ^ 128 :=
    (Nat.mod_lt _ (by positivity)).trans_le (Nat.pow_le_pow_right two_pos (Nat.sub_le _ _))
  apply BitVec.eq_of_toNat_eq
  rw [BitVec.toNat_ushiftRight, BitVec.toNat_shiftLeft, BitVec.toNat_ofNat, Nat.mod_eq_of_lt hle, Nat.shiftLeft_eq,
    Nat.shiftRight_eq_div_pow, hsplit, Nat.mul_mod_mul_right, Nat.mul_div_cancel _ (by positivity)]

/-- R135: shifting right then left clears the low bits. -/
theorem ushiftRight_shiftLeft_eq (a : Wide) (n : Nat) : (a >>> n) <<< n = a - BitVec.ofNat 128 (a.toNat % 2 ^ n) := by
  rw [eq_sub_iff_add_eq]
  calc (a >>> n) <<< n + BitVec.ofNat 128 (a.toNat % 2 ^ n)
    _ = BitVec.ofNat 128 (a.toNat / 2 ^ n * 2 ^ n + a.toNat % 2 ^ n) := by
      rw [BitVec.ofNat_add]
      congr 1
      exact BitVec.eq_of_toNat_eq (by simp [Nat.shiftLeft_eq, Nat.shiftRight_eq_div_pow])
    _ = a := by rw [Nat.div_add_mod', BitVec.ofNat_toNat, BitVec.setWidth_eq]

/-- R135: a right shift is a quotient by a power of two. -/
theorem udiv_ofNat_two_pow (a : Wide) {n : Nat} (hn : n < 128) : a / BitVec.ofNat 128 (2 ^ n) = a >>> n := by
  have hpow : 2 ^ n < 2 ^ 128 := Nat.pow_lt_pow_right one_lt_two hn
  apply BitVec.eq_of_toNat_eq
  rw [BitVec.toNat_udiv, BitVec.toNat_ofNat, Nat.mod_eq_of_lt hpow, BitVec.toNat_ushiftRight, Nat.shiftRight_eq_div_pow]

/-- Settles O30: the laws of the shifts of `BitVec 128`; counts whose sum stays in range do not wrap. -/
theorem shiftLaws : Obligations.ShiftLaws := by
  intro a c d hc
  have hpow : BitVec.ofNat 128 (2 ^ c.toNat) ≠ 0 := by
    intro h
    have := congrArg BitVec.toNat h
    rw [BitVec.toNat_ofNat, Nat.mod_eq_of_lt (Nat.pow_lt_pow_right one_lt_two hc)] at this
    exact (Nat.two_pow_pos _).ne' this
  refine ⟨⟨_, _, _, patternOf_lshl a hc, patternOf_lshr a hc, patternOf_ashr a hc, ?_, ?_, fun hcd => ?_⟩, ?_, ?_⟩
  · rw [patternOf_lshr _ hc, shiftLeft_ushiftRight_eq a hc]
  · rw [patternOf_lshl _ hc, ushiftRight_shiftLeft_eq]
  · have hsum : (c + d).toNat = c.toNat + d.toNat := BitVec.toNat_add_of_lt (by omega)
    have hd : d.toNat < 128 := by omega
    have hcd' : (c + d).toNat < 128 := by omega
    rw [patternOf_lshl _ hd, patternOf_lshr _ hd, patternOf_ashr _ hd, patternOf_lshl _ hcd', patternOf_lshr _ hcd',
      patternOf_ashr _ hcd', hsum, BitVec.shiftLeft_add, BitVec.shiftRight_add, BitVec.sshiftRight_add]
    exact ⟨rfl, rfl, rfl⟩
  · rw [patternOf_mul, mul_ofNat_two_pow, patternOf_lshl a hc]
  · rw [patternOf_of_resultOf (resultOf_divu a hpow), udiv_ofNat_two_pow a hc, patternOf_lshr a hc]

/-! ### Multipliers (R103, R104) -/

/-- The low `n + 1` bits of a number are its low `n` bits and bit `n`. -/
theorem mod_two_pow_succ (x n : Nat) : x % 2 ^ (n + 1) = x % 2 ^ n + 2 ^ n * (x.testBit n).toNat := by
  rw [Nat.mod_pow_succ, Nat.toNat_testBit]

/-- R104: after `n` steps the multiplier holds the product with the low `n` bits of B. -/
theorem mulAccumulate_eq (a b : Wide) (n : Nat) : mulAccumulate a b n = a * BitVec.ofNat 128 (b.toNat % 2 ^ n) := by
  induction n with
  | zero => simp [mulAccumulate, Nat.mod_one]
  | succ n ih =>
    rw [mulAccumulate, ih, mod_two_pow_succ, BitVec.ofNat_add, mul_add, BitVec.getLsbD]
    cases b.toNat.testBit n with
    | true => rw [if_pos rfl, Bool.toNat_true, Nat.mul_one, mul_ofNat_two_pow]
    | false => simp

/-- R12: the number that a pair spells. -/
theorem toNat_pair (hi lo : Word) : (pair hi lo).toNat = hi.toNat * 2 ^ 64 + lo.toNat := by
  rw [pair, BitVec.toNat_append, Nat.shiftLeft_eq, Nat.mul_comm, ← Nat.two_pow_add_eq_or_of_lt lo.isLt]

/-- R103: modulo `2^128` the product of two pairs needs the product of the low words in full and the mixed ones modulo `2^64`. -/
theorem mul_limbs_mod (ah al bh bl : Nat) :
    (ah * 2 ^ 64 + al) * (bh * 2 ^ 64 + bl) % 2 ^ 128 =
      (al * bl / 2 ^ 64 + al * bh + ah * bl) % 2 ^ 64 * 2 ^ 64 + al * bl % 2 ^ 64 := by
  set low := al * bl with hlow
  set mixed := low / 2 ^ 64 + al * bh + ah * bl with hmixed
  have hexpand : (ah * 2 ^ 64 + al) * (bh * 2 ^ 64 + bl) =
      (mixed % 2 ^ 64 * 2 ^ 64 + low % 2 ^ 64) + 2 ^ 128 * (ah * bh + mixed / 2 ^ 64) :=
    calc (ah * 2 ^ 64 + al) * (bh * 2 ^ 64 + bl)
      _ = 2 ^ 128 * (ah * bh) + 2 ^ 64 * (al * bh + ah * bl) + low := by rw [hlow]; ring
      _ = 2 ^ 128 * (ah * bh) + 2 ^ 64 * mixed + low % 2 ^ 64 := by
        rw [hmixed]; nth_rw 1 [← Nat.div_add_mod low (2 ^ 64)]; ring
      _ = _ := by nth_rw 1 [← Nat.div_add_mod mixed (2 ^ 64)]; ring
  have hlow_lt : low % 2 ^ 64 < 2 ^ 64 := Nat.mod_lt _ (by decide)
  have hmixed_lt : mixed % 2 ^ 64 < 2 ^ 64 := Nat.mod_lt _ (by decide)
  rw [hexpand, Nat.add_mul_mod_self_left, Nat.mod_eq_of_lt (by omega)]

/-- R103: the partial-product multiplier is the product of patterns. -/
theorem mulLimbs_eq (a b : Wide) : mulLimbs a b = a * b := by
  obtain ⟨ah, al, rfl⟩ := pair_surjective a
  obtain ⟨bh, bl, rfl⟩ := pair_surjective b
  have hlow : al.toNat * bl.toNat < 2 ^ 128 :=
    (Nat.mul_lt_mul'' al.isLt bl.isLt).trans_eq (by norm_num)
  apply BitVec.eq_of_toNat_eq
  rw [BitVec.toNat_mul, toNat_pair, toNat_pair, mul_limbs_mod]
  simp only [mulLimbs, toNat_pair, loWord_pair, hiWord_pair]
  have hfull : (al.zeroExtend 128 * bl.zeroExtend 128).toNat = al.toNat * bl.toNat := by
    simpa using hlow
  simp [hiWord, loWord, BitVec.extractLsb'_toNat, hfull, Nat.shiftRight_eq_div_pow]

/-- Settles O31: both multipliers are the product of patterns (`mulLimbs_eq`, `mulAccumulate_eq` for all 128 bits). -/
theorem multiplierDatapathsAgree : Obligations.MultiplierDatapathsAgree := by
  intro a b
  rw [patternOf_mul, mulLimbs_eq, mulSerial, mulAccumulate_eq, Nat.mod_eq_of_lt b.isLt, BitVec.ofNat_toNat, BitVec.setWidth_eq]
  exact ⟨rfl, rfl⟩

end Sys2Proof.Machine
end

section
/-! The restoring divider (R118, R119) and the shifters (R136, R137). -/

namespace Sys2Proof.Machine

/-! ### Restoring divider (R118, R119) -/

/-- R118: from a remainder below the divisor, the steps for the low `k` bits of `n` divide what remainder and bits spell together. -/
theorem restoringSteps_eq (n : Nat) {d : Nat} (k q r : Nat) (hr : r < d) :
    restoringSteps n d k (q, r) = (q + (r * 2 ^ k + n % 2 ^ k) / d, (r * 2 ^ k + n % 2 ^ k) % d) := by
  induction k generalizing q r with
  | zero => simp [restoringSteps, Nat.mod_one, Nat.div_eq_of_lt hr, Nat.mod_eq_of_lt hr]
  | succ k ih =>
    set r2 := 2 * r + (n.testBit k).toNat with hr2
    have hbit : (n.testBit k).toNat ≤ 1 := Bool.toNat_le _
    have hspell : r * 2 ^ (k + 1) + n % 2 ^ (k + 1) = r2 * 2 ^ k + n % 2 ^ k := by
      rw [mod_two_pow_succ, hr2]
      ring
    rw [hspell, restoringSteps, ← hr2]
    split
    next hle => -- the divisor is subtracted, and the quotient gets bit `k`
      have hrest : r2 * 2 ^ k + n % 2 ^ k = (r2 - d) * 2 ^ k + n % 2 ^ k + d * 2 ^ k := by
        obtain ⟨e, he⟩ := Nat.exists_eq_add_of_le hle
        rw [he, Nat.add_sub_cancel_left]
        ring
      rw [ih _ _ (by omega), hrest, Nat.add_mul_div_left _ _ (by omega), Nat.add_mul_mod_self_left]
      congr 1
      omega
    next hlt => exact ih _ _ (by omega)

/-- R118: quotient and remainder. -/
theorem restoring_eq {n d : Nat} (hn : n < 2 ^ 128) (hd : 0 < d) : restoring n d = (n / d, n % d) := by
  rw [restoring, restoringSteps_eq n 128 0 0 hd, Nat.mod_eq_of_lt hn]
  simp

/-- R119: the magnitude of a pattern as a number. -/
theorem toNat_magnitude (x : Wide) : (magnitude x).toNat = (s128 x).natAbs := by
  have hx := x.isLt
  unfold magnitude s128
  split
  next hneg =>
    have : x ≠ 0 := by rintro rfl; simp at hneg
    have : x.toNat ≠ 0 := by simpa [← BitVec.toNat_inj] using this
    simp
    omega
  next => simp

/-- R13: the top bit is the sign of the signed reading. -/
theorem msb_eq_decide_s128_neg (x : Wide) : x.msb = decide (s128 x < 0) := by
  rw [s128_eq_toInt, BitVec.msb_eq_toInt]

/-- R119: a number with a sign, as the datapath negates it and as `wrap128` narrows it. -/
theorem wrap128_signed (neg : Bool) (n : Nat) :
    wrap128 (if neg then -(n : Int) else n) = if neg then 0 - BitVec.ofNat 128 n else BitVec.ofNat 128 n := by
  cases neg with
  | true =>
    rw [if_pos rfl, if_pos rfl, wrap128, BitVec.ofInt_neg, BitVec.ofInt_natCast]
    exact (zero_sub _).symm
  | false => exact BitVec.ofInt_natCast 128 n

section
variable (a : Wide) {b : Wide} (hb : b ≠ 0)
include hb

/-- R119: the restoring divider on the magnitudes. -/
theorem restoring_magnitude :
    restoring (magnitude a).toNat (magnitude b).toNat =
      ((s128 a).natAbs / (s128 b).natAbs, (s128 a).natAbs % (s128 b).natAbs) := by
  have hb' : (magnitude b).toNat ≠ 0 := by
    rw [toNat_magnitude, Int.natAbs_ne_zero, s128_eq_toInt]
    exact mt (BitVec.eq_of_toInt_eq (y := 0)) hb
  rw [restoring_eq (magnitude a).isLt (Nat.pos_of_ne_zero hb'), toNat_magnitude, toNat_magnitude]

theorem divsRestoring_eq : divsRestoring a b = wrap128 (signedQuotient (s128 a) (s128 b)) := by
  rw [divsRestoring, restoring_magnitude a hb, signedQuotient, wrap128_signed, ← msb_eq_decide_s128_neg, ← msb_eq_decide_s128_neg]

theorem modsRestoring_eq : modsRestoring a b = wrap128 (signedRemainder (s128 a) (s128 b)) := by
  have hrest : ((s128 a).natAbs : Int) - (s128 b).natAbs * ((s128 a).natAbs / (s128 b).natAbs : Nat) =
      ((s128 a).natAbs % (s128 b).natAbs : Nat) := by
    rw [Int.natCast_div, Int.natCast_mod, Int.emod_def]
  have hsign : a.msb = true ↔ s128 a < 0 := by rw [msb_eq_decide_s128_neg, decide_eq_true_iff]
  rw [modsRestoring, restoring_magnitude a hb, signedRemainder, hrest, ← if_congr hsign rfl rfl, wrap128_signed]

end

/-- Settles O32: the divider keeps quotient and remainder of what it has read of the dividend (`restoringSteps_eq`); DIVS and MODS
divide the magnitudes and set the sign just as the datapath on it does. -/
theorem restoringDividerAgrees : Obligations.RestoringDividerAgrees := by
  refine ⟨fun n d => restoring_eq, fun a b hb => ⟨?_, ?_⟩⟩
  · rw [divsRestoring_eq a hb]
    exact patternOf_of_resultOf (unlessZeroDivisor_of_ne hb _)
  · rw [modsRestoring_eq a hb]
    exact patternOf_of_resultOf (unlessZeroDivisor_of_ne hb _)

/-! ### Barrel shifter (R136) -/

/-- The shift of patterns that an operation with a valid count is. -/
def ShiftKind.shift (k : ShiftKind) (a : Wide) (n : Nat) : Wide :=
  match k with
  | .lshl | .ashl => a <<< n
  | .lshr => a >>> n
  | .ashr => a.sshiftRight n

theorem ShiftKind.resultOf_instr (k : ShiftKind) (a : Wide) {c : Word} (hc : c.toNat < 128) :
    resultOf (k.instr a c) = resultWide (k.shift a c.toNat) := by
  cases k with
  | lshl => exact resultOf_lshl a hc
  | lshr => exact resultOf_lshr a hc
  | ashl => exact resultOf_ashl a hc
  | ashr => exact resultOf_ashr a hc

theorem ShiftKind.resultOf_instr_of_large (k : ShiftKind) (a : Wide) {c : Word} (hc : 128 ≤ c.toNat) :
    resultOf (k.instr a c) = polShift := by
  cases k <;> exact if_pos hc

/-- R136: a right shift with ones entering, of a pattern whose top bit is set. -/
theorem ushiftRight_or_ones (x : Wide) (hx : x.msb = true) {n : Nat} (hn : n ≤ 128) :
    x >>> n ||| BitVec.allOnes 128 <<< (128 - n) = x.sshiftRight n := by
  apply BitVec.eq_of_getLsbD_eq
  intro i hi
  rw [BitVec.getLsbD_sshiftRight, BitVec.getLsbD_or, BitVec.getLsbD_ushiftRight, BitVec.getLsbD_shiftLeft,
    BitVec.getLsbD_allOnes, hx]
  by_cases hin : n + i < 128
  · have hlow : i < 128 - n := by omega
    simp [hin, hlow, hi.not_ge]
  · have hhigh : ¬i < 128 - n := by omega
    have hcount : i - (128 - n) < 128 := by omega
    simp [hin, hhigh, hi, hcount]

/-- R136: stage `j` shifts further by `2^j` if bit `j` of the count is set. -/
theorem barrelStage_shift (k : ShiftKind) (a : Wide) (c : Word) (m : Nat) {j : Nat} (hj : j < 7) :
    barrelStage k.isLeft (k.fill a) c (k.shift a m) j = k.shift a (m + 2 ^ j * (c.toNat.testBit j).toNat) := by
  have hpow : 2 ^ j ≤ 128 := Nat.pow_le_pow_right two_pos hj.le
  unfold barrelStage
  rw [BitVec.getLsbD]
  cases c.toNat.testBit j with
  | false => rfl
  | true =>
    rw [if_pos rfl, Bool.toNat_true, Nat.mul_one]
    cases k with
    | lshl | ashl => exact (BitVec.shiftLeft_add ..).symm
    | lshr =>
      simp [ShiftKind.isLeft, ShiftKind.fill, ShiftKind.shift, BitVec.shiftRight_add]
    | ashr =>
      simp only [ShiftKind.isLeft, ShiftKind.fill, ShiftKind.shift]
      cases hmsb : a.msb with
      | true =>
        rw [BitVec.sshiftRight_add, ← ushiftRight_or_ones (a.sshiftRight m) (by rw [BitVec.msb_sshiftRight, hmsb]) hpow]
        rfl
      | false => simp [BitVec.sshiftRight_eq_of_msb_false, hmsb, BitVec.shiftRight_add]

/-- R136: the first `n` stages shift by the low `n` bits of the count. -/
theorem foldl_barrelStage (k : ShiftKind) (a : Wide) (c : Word) {n : Nat} (hn : n ≤ 7) :
    (List.range n).foldl (barrelStage k.isLeft (k.fill a) c) a = k.shift a (c.toNat % 2 ^ n) := by
  induction n with
  | zero => cases k <;> simp [ShiftKind.shift, Nat.mod_one]
  | succ n ih =>
    rw [List.range_succ, List.foldl_append, ih (by omega), mod_two_pow_succ]
    exact barrelStage_shift k a c _ hn

/-- Settles O33: the high bits of the count are the range test, and the seven stages shift by its low seven bits. -/
theorem barrelShifterAgrees : Obligations.BarrelShifterAgrees := by
  intro k a c
  have hrange : c.extractLsb' 7 57 = 0 ↔ c.toNat < 128 := by
    rw [← BitVec.toNat_inj, BitVec.extractLsb'_toNat, Nat.shiftRight_eq_div_pow]
    simp
    omega
  unfold barrelShift
  by_cases hc : c.toNat < 128
  · rw [if_neg (not_not.2 (hrange.2 hc)), k.resultOf_instr a hc]
    have hstages := foldl_barrelStage k a c (n := 7) le_rfl
    rw [Nat.mod_eq_of_lt (b := 2 ^ 7) hc] at hstages
    exact congrArg resultWide hstages.symm
  · rw [if_pos (mt hrange.1 hc), k.resultOf_instr_of_large a (not_lt.1 hc)]

/-! ### Word-level shifts (R137) -/

theorem getLsbD_loWord (x : Wide) (i : Nat) : (loWord x).getLsbD i = (decide (i < 64) && x.getLsbD i) := by
  simp [loWord]

theorem getLsbD_hiWord (x : Wide) (i : Nat) : (hiWord x).getLsbD i = (decide (i < 64) && x.getLsbD (64 + i)) := by
  simp [hiWord]

/-- A pair of words is that of a wide value if it agrees with it bit by bit. -/
theorem words_ext {lo hi : Word} {x : Wide} (hlo : ∀ i < 64, lo.getLsbD i = x.getLsbD i)
    (hhi : ∀ i < 64, hi.getLsbD i = x.getLsbD (64 + i)) : (lo, hi) = (loWord x, hiWord x) := by
  congr 1
  · exact BitVec.eq_of_getLsbD_eq fun i hi' => by rw [getLsbD_loWord, hlo i hi', decide_eq_true hi', Bool.true_and]
  · exact BitVec.eq_of_getLsbD_eq fun i hi' => by rw [getLsbD_hiWord, hhi i hi', decide_eq_true hi', Bool.true_and]

/-- R137, LSHL and ASHL: each row of the table bit by bit. -/
theorem wordShiftLeft_eq (lo hi : Word) (c : Nat) :
    wordShiftLeft lo hi c = (loWord (pair hi lo <<< c), hiWord (pair hi lo <<< c)) := by
  unfold wordShiftLeft
  split_ifs with h0 hlt h64
  · simp [h0]
  all_goals
    refine words_ext (fun i hi' => ?_) (fun i hi' => ?_)
    all_goals
      simp only [BitVec.getLsbD_shiftLeft, BitVec.getLsbD_or, BitVec.getLsbD_ushiftRight, getLsbD_pair]
      grind

/-- R137, LSHR: each row of the table bit by bit. -/
theorem wordShiftRightLogical_eq (lo hi : Word) (c : Nat) :
    wordShiftRightLogical lo hi c = (loWord (pair hi lo >>> c), hiWord (pair hi lo >>> c)) := by
  unfold wordShiftRightLogical
  split_ifs with h0 hlt h64
  · simp [h0]
  all_goals
    refine words_ext (fun i hi' => ?_) (fun i hi' => ?_)
    all_goals
      simp only [BitVec.getLsbD_shiftLeft, BitVec.getLsbD_or, BitVec.getLsbD_ushiftRight, getLsbD_pair]
      grind

theorem msb_pair (hi lo : Word) : (pair hi lo).msb = hi.msb := by
  rw [BitVec.msb_eq_getLsbD_last, getLsbD_pair, BitVec.msb_eq_getLsbD_last]
  rfl

/-- R137: a word of copies of the top bit. -/
theorem getLsbD_signs (hi : Word) (i : Nat) :
    (if hi.msb then BitVec.allOnes 64 else 0).getLsbD i = (decide (i < 64) && hi.msb) := by
  cases hi.msb with
  | true => simp only [if_true, BitVec.getLsbD_allOnes, Bool.and_true]
  | false => simp

/-- R137, ASHR: each row of the table bit by bit. -/
theorem wordShiftRightArithmetic_eq (lo hi : Word) (c : Nat) :
    wordShiftRightArithmetic lo hi c = (loWord ((pair hi lo).sshiftRight c), hiWord ((pair hi lo).sshiftRight c)) := by
  have hsigns := getLsbD_signs hi
  unfold wordShiftRightArithmetic
  generalize (if hi.msb then BitVec.allOnes 64 else 0) = signs at hsigns
  dsimp only
  split_ifs with h0 hlt h64
  · simp [h0]
  all_goals
    refine words_ext (fun i hi' => ?_) (fun i hi' => ?_)
    all_goals
      simp only [BitVec.getLsbD_shiftLeft, BitVec.getLsbD_or, BitVec.getLsbD_ushiftRight, BitVec.getLsbD_sshiftRight, getLsbD_pair,
        msb_pair, hsigns]
      grind

/-- Settles O34: the table gives the words of the shifted pattern, row by row. -/
theorem wordLevelShiftsAgree : Obligations.WordLevelShiftsAgree := by
  intro lo hi c hc
  rw [wordShiftLeft_eq, wordShiftRightLogical_eq, wordShiftRightArithmetic_eq]
  exact ⟨resultOf_lshl _ hc, resultOf_ashl _ hc, resultOf_lshr _ hc, resultOf_ashr _ hc⟩

end Sys2Proof.Machine
end

section
/-! Quad format (43_quad_format.md section 1): the classes by their fields, and the values of a format as integer multiples of its least
one, which grow with the bits below the sign. -/

namespace Sys2Proof.Machine

/-! ### Classes by their fields (R151) -/

theorem Format.classify_eq_zero_iff (F : Format) (x : Nat) : F.classify x = .zero ↔ F.exponent x = 0 ∧ F.fraction x = 0 := by
  unfold Format.classify
  split
  next hzero => split <;> simp_all
  next hpos => split_ifs <;> simp [hpos]

theorem Format.classify_eq_subnormal_iff (F : Format) (x : Nat) :
    F.classify x = .subnormal ↔ F.exponent x = 0 ∧ F.fraction x ≠ 0 := by
  unfold Format.classify
  split
  next hzero => split <;> simp_all
  next hpos => split_ifs <;> simp [hpos]

theorem Format.classify_eq_normal_iff (F : Format) (x : Nat) :
    F.classify x = .normal ↔ F.exponent x ≠ 0 ∧ F.exponent x ≠ F.expOnes := by
  unfold Format.classify
  split
  next hzero => split <;> simp [hzero]
  next hzero =>
    split
    next hones => split <;> simp [hones]
    next hones => simp [hzero, hones]

theorem Format.classify_eq_infinity_iff {F : Format} (hF : F.expOnes ≠ 0) (x : Nat) :
    F.classify x = .infinity ↔ F.exponent x = F.expOnes ∧ F.fraction x = 0 := by
  unfold Format.classify
  split
  next hzero => split <;> simp [hzero, hF.symm]
  next =>
    split
    next hones => split <;> simp_all
    next hones => simp [hones]

/-- R150: equality of a field's number is equality of its bits. -/
theorem exponent_eq_iff (x : Quad) (e : BitVec 15) : formatQ.exponent x.toNat = e.toNat ↔ x.extractLsb' 112 15 = e := by
  rw [exponent_formatQ, BitVec.toNat_inj]

theorem fraction_eq_zero_iff (x : Quad) : formatQ.fraction x.toNat = 0 ↔ x.extractLsb' 0 112 = 0#112 := by
  rw [fraction_formatQ]
  exact BitVec.toNat_inj (y := 0#112)

theorem zeroBits_iff (x : Quad) : zeroBits x ↔ x.extractLsb' 112 15 = 0#15 ∧ x.extractLsb' 0 112 = 0#112 := by
  unfold zeroBits
  simp only [← BitVec.toNat_inj, BitVec.extractLsb'_toNat, Nat.shiftRight_eq_div_pow, BitVec.toNat_ofNat]
  omega

theorem isInf_iff_infBits (x : Quad) : isInf x = true ↔ infBits x := by
  unfold isInf classQ infBits
  rw [decide_eq_true_iff, Format.classify_eq_infinity_iff (by decide), fraction_eq_zero_iff]
  exact and_congr_left' (exponent_eq_iff x 0x7FFF#15)

theorem isZero_iff_zeroBits (x : Quad) : isZero x = true ↔ zeroBits x := by
  unfold isZero classQ
  rw [decide_eq_true_iff, Format.classify_eq_zero_iff, fraction_eq_zero_iff, zeroBits_iff]
  exact and_congr_left' (exponent_eq_iff x 0#15)

theorem isFinite_iff_finiteBits (x : Quad) : isFinite x = true ↔ finiteBits x := by
  rw [← not_iff_not, ← isNaN_or_isInf_iff_not_finiteBits, isFinite_iff]
  simp [or_iff_not_imp_left]

/-- Settles O37: `classify` decides by the fields, which are read as numbers there and as bits here. -/
theorem classIsReadFromTheFields : Obligations.ClassIsReadFromTheFields := by
  refine fun x => ⟨isNaN_iff_nanBits x, isInf_iff_infBits x, isZero_iff_zeroBits x, isFinite_iff_finiteBits x, ?_, ?_⟩
  · rw [classQ, Format.classify_eq_subnormal_iff, ne_eq, fraction_eq_zero_iff]
    exact and_congr_left' (exponent_eq_iff x 0#15)
  · rw [classQ, Format.classify_eq_normal_iff]
    exact and_congr (exponent_eq_iff x 0#15).not (exponent_eq_iff x 0x7FFF#15).not

/-! ### Values as multiples of the least one (R155) -/

/-- The bits below the sign. -/
def Format.body (F : Format) (x : Nat) : Nat := x % 2 ^ (F.W + F.T)

/-- The magnitude of a body in units of the least subnormal one, `2^(EMIN - T)`. -/
def Format.scaled (F : Format) (b : Nat) : Nat := if b / 2 ^ F.T = 0 then b else (2 ^ F.T + b % 2 ^ F.T) * 2 ^ (b / 2 ^ F.T - 1)

section
variable (F : Format)

theorem Format.body_div (x : Nat) : F.body x / 2 ^ F.T = F.exponent x := by
  rw [Format.body, Nat.add_comm, pow_add, Nat.mod_mul_right_div_self]
  rfl

theorem Format.body_mod (x : Nat) : F.body x % 2 ^ F.T = F.fraction x := by
  rw [Format.body, Nat.mod_mod_of_dvd _ (pow_dvd_pow 2 (Nat.le_add_left _ _))]
  rfl

theorem Format.body_pack (s : Bool) {b : Nat} (hb : b < 2 ^ (F.W + F.T)) : F.body (F.pack s b) = b := by
  rw [Format.body, Format.pack, Nat.add_comm, Nat.add_mul_mod_self_right, Nat.mod_eq_of_lt hb]

theorem Format.sign_pack (s : Bool) {b : Nat} (hb : b < 2 ^ (F.W + F.T)) : F.sign (F.pack s b) = s := by
  rw [Format.sign, Format.pack, Nat.testBit_eq_decide_div_mod_eq, Nat.add_comm, Nat.add_mul_div_right _ _ (by positivity),
    Nat.div_eq_of_lt hb]
  cases s <;> rfl

/-- A pattern is its sign and its body. -/
theorem Format.pack_sign_body {x : Nat} (hx : x < 2 ^ F.width) : F.pack (F.sign x) (F.body x) = x := by
  have hwidth : F.width = F.W + F.T + 1 := rfl
  rw [hwidth, pow_succ] at hx
  have htop : x / 2 ^ (F.W + F.T) < 2 := Nat.div_lt_of_lt_mul hx
  have hsign : (F.sign x).toNat = x / 2 ^ (F.W + F.T) := by
    rw [Format.sign, Nat.toNat_testBit, Nat.mod_eq_of_lt htop]
  rw [Format.pack, hsign, Format.body, Nat.div_add_mod']

@[simp] theorem Format.scaled_zero : F.scaled 0 = 0 := by simp [Format.scaled]

/-- R155: the value of a pattern in units of the least one. -/
theorem Format.value_eq_scaled (x : Nat) :
    F.value x = signedInt (F.sign x) (F.scaled (F.body x)) * (2 : ℚ) ^ (F.emin - F.T) := by
  have hsigned (s : Bool) (m k : Nat) : (signedInt s (m * 2 ^ k) : ℚ) = signedInt s m * 2 ^ k := by
    cases s <;> simp [signedInt]
  unfold Format.value Format.unpack Format.scaled
  rw [F.body_div, F.body_mod]
  split
  next hzero =>
    have hbody : F.body x = F.fraction x := by
      rw [← F.body_mod, Nat.mod_eq_of_lt]
      exact (Nat.div_eq_zero_iff.1 ((F.body_div x).trans hzero)).resolve_left (by positivity)
    rw [hbody]
  next hpos =>
    obtain ⟨e, he⟩ := Nat.exists_eq_succ_of_ne_zero hpos
    dsimp only
    rw [hsigned, mul_assoc, ← zpow_natCast, ← zpow_add₀ two_ne_zero, he]
    congr 2
    simp [Format.emin]
    ring

/-- R156: a significand of at most `T + 2` bits, with its leading bit in every binade but the least, added below the exponent of its
binade, spells a body of its magnitude; a carry out of the significand steps the exponent. -/
theorem Format.scaled_add {d N : Nat} (hlead : d ≠ 0 → 2 ^ F.T ≤ N) (hcarry : N ≤ 2 * 2 ^ F.T) :
    F.scaled (d * 2 ^ F.T + N) = N * 2 ^ d := by
  have hpos : 0 < 2 ^ F.T := by positivity
  unfold Format.scaled
  obtain hsub | hle := lt_or_ge N (2 ^ F.T)
  · obtain rfl : d = 0 := not_not.1 (mt hlead hsub.not_ge)
    simp [Nat.div_eq_of_lt hsub]
  · obtain ⟨f, rfl⟩ := Nat.exists_eq_add_of_le hle
    obtain hf | rfl : f < 2 ^ F.T ∨ f = 2 ^ F.T := by omega
    · have hbody : d * 2 ^ F.T + (2 ^ F.T + f) = f + 2 ^ F.T * (d + 1) := by ring
      rw [hbody, Nat.add_mul_div_left _ _ hpos, Nat.add_mul_mod_self_left, Nat.div_eq_of_lt hf, Nat.mod_eq_of_lt hf]
      simp
    · have hbody : d * 2 ^ F.T + (2 ^ F.T + 2 ^ F.T) = 2 ^ F.T * (d + 2) := by ring
      rw [hbody, Nat.mul_div_cancel_left _ hpos, Nat.mul_mod_right, if_neg (by omega), Nat.add_succ_sub_one]
      ring

/-- Every body is spelled like this, without the carry. -/
theorem Format.exists_significand (b : Nat) :
    ∃ d N, b = d * 2 ^ F.T + N ∧ (d ≠ 0 → 2 ^ F.T ≤ N) ∧ N < 2 * 2 ^ F.T ∧ d = b / 2 ^ F.T - 1 := by
  have hdivmod := Nat.div_add_mod' b (2 ^ F.T)
  have hmod : b % 2 ^ F.T < 2 ^ F.T := Nat.mod_lt _ (by positivity)
  rcases hq : b / 2 ^ F.T with _ | q
  · exact ⟨0, b, by simp, by simp, by rw [hq] at hdivmod; omega, rfl⟩
  · refine ⟨q, 2 ^ F.T + b % 2 ^ F.T, ?_, fun _ => Nat.le_add_right _ _, by omega, rfl⟩
    rw [hq] at hdivmod
    rw [← hdivmod]
    simp
    ring

/-- From one body to the next the magnitude grows by the unit of the lower one's binade. -/
theorem Format.scaled_succ (b : Nat) : F.scaled (b + 1) = F.scaled b + 2 ^ (b / 2 ^ F.T - 1) := by
  obtain ⟨d, N, hb, hlead, hcarry, hd⟩ := F.exists_significand b
  have hlead' : d ≠ 0 → 2 ^ F.T ≤ N + 1 := fun h => (hlead h).trans (Nat.le_succ N)
  rw [← hd, hb, F.scaled_add hlead hcarry.le, Nat.add_assoc, F.scaled_add hlead' hcarry]
  ring

theorem Format.scaled_strictMono : StrictMono F.scaled := 
  strictMono_nat_of_lt_succ fun b => by rw [F.scaled_succ]; exact Nat.lt_add_of_pos_right (by positivity)

end

end Sys2Proof.Machine
end

section
/-! Rounding (43_quad_format.md section 3): integer rounding is exact rounding (R157), the sticky bit (R158), and nearest-even (R156). -/

namespace Sys2Proof.Machine

theorem bitlen_ne_zero {n : Nat} (h : n ≠ 0) : bitlen n ≠ 0 := by simp [bitlen, h]

/-- R14: a number has at least `k + 1` bits exactly from `2^k` on. -/
theorem lt_bitlen_iff {n k : Nat} : k < bitlen n ↔ 2 ^ k ≤ n := by
  rcases eq_or_ne n 0 with rfl | hn
  · simp
  · obtain ⟨hlow, hhigh⟩ := bitlen_bounds hn
    constructor
    · intro h
      exact (Nat.pow_le_pow_right two_pos (Nat.le_sub_one_of_lt h)).trans hlow
    · intro h
      exact (Nat.pow_lt_pow_iff_right one_lt_two).1 (h.trans_lt hhigh)

/-- The binary logarithm of a number with a rest below its last bit. -/
theorem log_add_mul_two_zpow {K : Nat} (hK : K ≠ 0) {t : ℚ} (ht : 0 ≤ t) (ht1 : t < 1) (y : Int) :
    Int.log 2 ((K + t) * (2 : ℚ) ^ y) = y + bitlen K - 1 := by
  obtain ⟨hlow, hhigh⟩ := bitlen_bounds hK
  have hL := Nat.pos_of_ne_zero (bitlen_ne_zero hK)
  have hlowQ : (2 : ℚ) ^ (bitlen K - 1) ≤ K := by exact_mod_cast hlow
  have hhighQ : (K : ℚ) + 1 ≤ 2 ^ bitlen K := by exact_mod_cast hhigh
  have hpos : (0 : ℚ) < (K + t) * (2 : ℚ) ^ y := by positivity
  apply le_antisymm
  · rw [← Int.lt_add_one_iff, ← Int.lt_zpow_iff_log_lt one_lt_two hpos]
    calc (K + t) * (2 : ℚ) ^ y < (2 : ℚ) ^ bitlen K * (2 : ℚ) ^ y := by gcongr; linarith
      _ = (2 : ℚ) ^ (y + bitlen K - 1 + 1) := by rw [← zpow_natCast, ← zpow_add₀ two_ne_zero]; congr 1; ring
  · rw [← Int.zpow_le_iff_le_log one_lt_two hpos]
    calc (2 : ℚ) ^ (y + bitlen K - 1) = (2 : ℚ) ^ (bitlen K - 1) * (2 : ℚ) ^ y := by
          rw [← zpow_natCast, ← zpow_add₀ two_ne_zero]; congr 1; omega
      _ ≤ (K + t) * (2 : ℚ) ^ y := by gcongr; linarith

/-! ### Rounding to an integer (R156, R157) -/

/-- R156: an integer is its own rounding. -/
@[simp] theorem roundHalfEven_natCast (n : Nat) : roundHalfEven n = n := by
  simp [roundHalfEven]

/-- R157: dropping `sh` low bits rounds the quotient. -/
theorem roundHalfEven_div_two_pow (M : Nat) {sh : Nat} (hsh : sh ≠ 0) : roundHalfEven (M / 2 ^ sh : ℚ) = roundShift M sh := by
  obtain ⟨k, rfl⟩ : ∃ k, sh = k + 1 := Nat.exists_eq_succ_of_ne_zero hsh
  have hpos : (0 : ℚ) < 2 ^ (k + 1) := by positivity
  have hfloor : ⌊(M / 2 ^ (k + 1) : ℚ)⌋.toNat = M / 2 ^ (k + 1) := by
    have := Rat.floor_natCast_div_natCast M (2 ^ (k + 1))
    push_cast at this
    rw [this]
    exact Int.toNat_natCast _
  have hrest : (M / 2 ^ (k + 1) : ℚ) - (M / 2 ^ (k + 1) : Nat) = (M % 2 ^ (k + 1) : Nat) / 2 ^ (k + 1) := by
    have : (M : ℚ) = 2 ^ (k + 1) * (M / 2 ^ (k + 1) : Nat) + (M % 2 ^ (k + 1) : Nat) := by
      exact_mod_cast (Nat.div_add_mod M (2 ^ (k + 1))).symm
    field_simp
    linarith
  have hgt : (M % 2 ^ (k + 1) : Nat) / 2 ^ (k + 1) > (1 / 2 : ℚ) ↔ M % 2 ^ (k + 1) > 2 ^ k := by
    rw [gt_iff_lt, lt_div_iff₀ hpos, pow_succ]
    ring_nf
    norm_cast
  have heq : (M % 2 ^ (k + 1) : Nat) / 2 ^ (k + 1) = (1 / 2 : ℚ) ↔ M % 2 ^ (k + 1) = 2 ^ k := by
    rw [div_eq_iff hpos.ne', pow_succ]
    ring_nf
    norm_cast
  unfold roundHalfEven roundShift
  simp only [hfloor, hrest, hgt, heq, Nat.add_one_sub_one]

/-- Strictly between two neighbouring multiples of one half the rounding is constant: there is no tie. -/
theorem roundHalfEven_of_between {n : ℚ} {j : Nat} (hlow : (j : ℚ) < 2 * n) (hhigh : 2 * n < j + 1) : roundHalfEven n = (j + 1) / 2 := by
  have hn : 0 ≤ n := by
    have : (0 : ℚ) ≤ j := by positivity
    linarith
  obtain ⟨m, rfl | rfl⟩ := Nat.even_or_odd' j
  · have hm : ⌊n⌋.toNat = m := by
      rw [Int.floor_toNat, Nat.floor_eq_iff hn]
      push_cast at *
      constructor <;> linarith
    have hdown : ¬(n - m > 1 / 2 ∨ (n - m = 1 / 2 ∧ m % 2 = 1)) := by
      push_cast at hhigh
      rintro (h | ⟨h, -⟩) <;> linarith
    rw [roundHalfEven, hm, if_neg hdown]
    omega
  · have hm : ⌊n⌋.toNat = m := by
      rw [Int.floor_toNat, Nat.floor_eq_iff hn]
      push_cast at *
      constructor <;> linarith
    have hup : n - m > 1 / 2 ∨ (n - m = 1 / 2 ∧ m % 2 = 1) := by
      push_cast at hlow
      left; linarith
    rw [roundHalfEven, hm, if_pos hup]
    omega

/-! ### Integer rounding (R157) -/

/-- R157: the exponent that the integer rounding takes from the bit length is that of the magnitude, and the shift drops the bits below the
unit. -/
theorem Format.roundPackInt_eq_round (F : Format) (s : Bool) (M : Nat) (x : Int) :
    F.roundPackInt s M x = F.round s (M * (2 : ℚ) ^ x) := by
  rcases eq_or_ne M 0 with rfl | hM
  · simp [Format.roundPackInt, Format.round]
  · have hv : (M * (2 : ℚ) ^ x) ≠ 0 := by positivity
    have hE : F.binade (M * (2 : ℚ) ^ x) = max (x + bitlen M - 1) F.emin := by
      have := log_add_mul_two_zpow hM le_rfl one_pos x
      rw [add_zero] at this
      rw [Format.binade, this]
    rw [F.round_of_ne_zero s hv, Format.roundPackInt, if_neg hM, Format.significand, hE]
    set E := max (x + bitlen M - 1) F.emin
    have hn : (M * (2 : ℚ) ^ x) / (2 : ℚ) ^ (E - F.T) = M * (2 : ℚ) ^ (-(E - F.T - x)) := by
      rw [mul_div_assoc, ← zpow_sub₀ two_ne_zero]
      congr 2
      ring
    rw [hn]
    refine congrArg (F.finish s E) ?_
    split
    next hsh =>
      obtain ⟨k, hk⟩ : ∃ k : Nat, -(E - F.T - x) = k := ⟨_, (Int.toNat_of_nonneg (by omega)).symm⟩
      rw [hk, zpow_natCast, Int.toNat_natCast]
      exact_mod_cast (roundHalfEven_natCast (M * 2 ^ k)).symm
    next hsh =>
      obtain ⟨k, hk⟩ : ∃ k : Nat, E - F.T - x = k := ⟨_, (Int.toNat_of_nonneg (by omega)).symm⟩
      rw [hk, zpow_neg, zpow_natCast, Int.toNat_natCast, ← div_eq_mul_inv, roundHalfEven_div_two_pow M (by omega)]

/-- Settles O38: the two roundings agree in every format. -/
theorem integerRoundingIsExactRounding : Obligations.IntegerRoundingIsExactRounding :=
  fun F _ s M x => F.roundPackInt_eq_round s M x

/-! ### The sticky bit (R158) -/

/-- R158: two rests that are not zero below a number of `T + 2` bits or more, one more than the significand's, round alike. -/
theorem Format.round_add_rest (F : Format) (s : Bool) {K : Nat} (hK : 2 ^ (F.T + 1) ≤ K) {t u : ℚ} (ht : 0 < t) (ht1 : t < 1)
    (hu : 0 < u) (hu1 : u < 1) (y : Int) : F.round s ((K + t) * (2 : ℚ) ^ y) = F.round s ((K + u) * (2 : ℚ) ^ y) := by
  have hK0 : K ≠ 0 := (Nat.lt_of_lt_of_le (by positivity) hK).ne'
  have hbits : F.T + 1 < bitlen K := lt_bitlen_iff.2 hK
  have hE (r : ℚ) (hr : 0 < r) (hr1 : r < 1) : F.binade ((K + r) * (2 : ℚ) ^ y) = max (y + bitlen K - 1) F.emin := by
    rw [Format.binade, log_add_mul_two_zpow hK0 hr.le hr1]
  obtain ⟨g, hg⟩ : ∃ g : Nat, max (y + bitlen K - 1) F.emin - F.T = y + (g + 1) :=
    ⟨(max (y + bitlen K - 1) F.emin - F.T - y - 1).toNat, by omega⟩
  have hsignificand (r : ℚ) (hr : 0 < r) (hr1 : r < 1) : F.significand ((K + r) * (2 : ℚ) ^ y) = (K / 2 ^ g + 1) / 2 := by
    have hpow : (0 : ℚ) < 2 ^ g := by positivity
    have hhalves : 2 * ((K + r) * (2 : ℚ) ^ y / (2 : ℚ) ^ (y + (g + 1))) = (K + r) / 2 ^ g := by
      rw [zpow_add₀ two_ne_zero, zpow_add_one₀ two_ne_zero, zpow_natCast]
      field_simp
    rw [Format.significand, hE r hr hr1, hg]
    apply roundHalfEven_of_between
    · rw [hhalves, lt_div_iff₀ hpow]
      have : ((K / 2 ^ g : Nat) : ℚ) * 2 ^ g ≤ K := by exact_mod_cast Nat.div_mul_le_self K (2 ^ g)
      linarith
    · rw [hhalves, div_lt_iff₀ hpow]
      have : (K : ℚ) + 1 ≤ ((K / 2 ^ g : Nat) + 1) * 2 ^ g := by
        exact_mod_cast (Nat.lt_mul_of_div_lt (Nat.lt_succ_self _) (by positivity) : K < (K / 2 ^ g + 1) * 2 ^ g)
      linarith
  rw [F.round_of_ne_zero s (by positivity), F.round_of_ne_zero s (by positivity), hE t ht ht1, hE u hu hu1,
    hsignificand t ht ht1, hsignificand u hu hu1]

/-- R158: the low bits may be replaced by one sticky bit. -/
theorem Format.round_sticky (F : Format) (s : Bool) {K : Nat} (hK : 2 ^ (F.T + 1) ≤ K) {t : ℚ} (ht : 0 ≤ t) (ht1 : t < 1) (y : Int) :
    F.round s ((K + t) * (2 : ℚ) ^ y) = F.roundPackInt s (2 * K + if t ≠ 0 then 1 else 0) (y - 1) := by
  rw [F.roundPackInt_eq_round]
  obtain rfl | hpos := ht.eq_or_lt
  · simp [zpow_sub_one₀]
    ring_nf
  · rw [if_pos hpos.ne', F.round_add_rest s hK hpos ht1 (u := 1 / 2) (by norm_num) (by norm_num), zpow_sub_one₀ two_ne_zero]
    congr 1
    push_cast
    ring

/-- Settles O39: `P + 3` bits with the sticky bit are `T + 3` without it, one more than `Format.round_sticky` needs. -/
theorem stickyBitKeepsTheRounding : Obligations.StickyBitKeepsTheRounding := by
  intro F _ s K t y ht ht1 hbits
  refine F.round_sticky s ?_ ht ht1 y
  have hle : 2 ^ (F.T + 3) ≤ 2 * K + if t ≠ 0 then 1 else 0 := lt_bitlen_iff.1 (Nat.lt_of_lt_of_le (by simp [Format.P]) hbits)
  rw [pow_succ, pow_succ] at hle
  split at hle <;> omega

end Sys2Proof.Machine
end

section
/-! Rounding to nearest even (43_quad_format.md section 3, R156): the rounded significand is the nearest integer, every finite value is a
multiple of its unit or lies below the binade, and a representable magnitude is its own rounding. -/

namespace Sys2Proof.Machine

/-! ### The nearest integer -/

/-- R156: what `roundHalfEven` is, from the floor of its argument. -/
theorem roundHalfEven_cases {n : ℚ} (hn : 0 ≤ n) : ∃ m : Nat, (m : ℚ) ≤ n ∧ n < m + 1 ∧
    ((roundHalfEven n = m ∧ (n - m < 1 / 2 ∨ (n - m = 1 / 2 ∧ m % 2 = 0))) ∨
     (roundHalfEven n = m + 1 ∧ (1 / 2 < n - m ∨ (n - m = 1 / 2 ∧ m % 2 = 1)))) := by
  refine ⟨⌊n⌋.toNat, Nat.floor_le hn, Nat.lt_floor_add_one n, ?_⟩
  unfold roundHalfEven
  generalize ⌊n⌋.toNat = m
  dsimp only
  split
  next hup => exact .inr ⟨rfl, hup⟩
  next hdown =>
    obtain ⟨hle, htie⟩ := not_or.1 hdown
    obtain hlt | heq := (not_lt.1 hle).lt_or_eq
    · exact .inl ⟨rfl, .inl hlt⟩
    · exact .inl ⟨rfl, .inr ⟨heq, Nat.mod_two_ne_one.1 fun h => htie ⟨heq, h⟩⟩⟩

theorem roundHalfEven_le {n : ℚ} (hn : 0 ≤ n) {K : Nat} (hK : n ≤ K) : roundHalfEven n ≤ K := by
  obtain ⟨m, hle, hlt, ⟨h, -⟩ | ⟨h, hrest⟩⟩ := roundHalfEven_cases hn
  · rw [h]
    exact_mod_cast hle.trans hK
  · rw [h]
    have : (m : ℚ) < K := by rcases hrest with hrest | ⟨hrest, -⟩ <;> linarith
    exact_mod_cast this

/-- No integer is nearer. -/
theorem abs_roundHalfEven_sub_le {n : ℚ} (hn : 0 ≤ n) (k : Int) : |(roundHalfEven n : ℚ) - n| ≤ |(k : ℚ) - n| := by
  obtain ⟨m, hle, hlt, hcases⟩ := roundHalfEven_cases hn
  have hk : (k : ℚ) ≤ m ∨ (m : ℚ) + 1 ≤ k := by
    obtain h | h := le_or_gt k (m : Int)
    · exact .inl (by exact_mod_cast h)
    · exact .inr (by exact_mod_cast h)
  obtain ⟨h, hrest⟩ | ⟨h, hrest⟩ := hcases
  · have hhalf : n - m ≤ 1 / 2 := hrest.elim le_of_lt fun h => h.1.le
    rw [h, abs_sub_comm, abs_of_nonneg (by linarith)]
    rcases hk with hk | hk
    · rw [abs_sub_comm, abs_of_nonneg (by linarith)]
      linarith
    · rw [abs_of_nonneg (by linarith)]
      linarith
  · have hhalf : 1 / 2 ≤ n - m := hrest.elim le_of_lt fun h => h.1.ge
    rw [h]
    push_cast
    rw [abs_of_nonneg (by linarith)]
    rcases hk with hk | hk
    · rw [abs_sub_comm, abs_of_nonneg (by linarith)]
      linarith
    · rw [abs_of_nonneg (by linarith)]
      linarith

/-- Of two nearest integers it is the even one. -/
theorem even_roundHalfEven_of_tie {n : ℚ} (hn : 0 ≤ n) {k : Int} (htie : |(roundHalfEven n : ℚ) - n| = |(k : ℚ) - n|)
    (hk : k ≠ roundHalfEven n) : roundHalfEven n % 2 = 0 := by
  obtain hsame | hother : (roundHalfEven n : ℚ) - n = k - n ∨ (roundHalfEven n : ℚ) - n = -(k - n) := abs_eq_abs.1 htie
  · exact absurd (by exact_mod_cast (sub_left_inj.1 hsame).symm) hk
  · obtain ⟨m, hle, hlt, ⟨h, hlow | ⟨-, heven⟩⟩ | ⟨h, hhigh | ⟨-, hodd⟩⟩⟩ := roundHalfEven_cases hn
    · rw [h] at hother hk
      have hkm : k < m + 1 := by exact_mod_cast (by linarith : (k : ℚ) < m + 1)
      have hmk : (m : Int) - 1 < k := by exact_mod_cast (by linarith : (m : ℚ) - 1 < k)
      omega
    · rw [h, heven]
    · rw [h] at hother hk
      push_cast at hother hk
      have hkm : k < m + 2 := by exact_mod_cast (by linarith : (k : ℚ) < m + 2)
      have hmk : (m : Int) < k := by exact_mod_cast (by linarith : (m : ℚ) < k)
      omega
    · omega

/-! ### Values with a sign -/

/-- The factor of a sign. -/
def signFactor (s : Bool) : ℚ := if s then -1 else 1

theorem cast_signedInt (s : Bool) (m : Nat) : (signedInt s m : ℚ) = signFactor s * m := by
  cases s <;> simp [signedInt, signFactor]

@[simp] theorem signFactor_mul_self (s : Bool) : signFactor s * signFactor s = 1 := by cases s <;> norm_num [signFactor]

@[simp] theorem abs_signFactor (s : Bool) : |signFactor s| = 1 := by cases s <;> norm_num [signFactor]

theorem signFactor_mul (s : Bool) (v : ℚ) : (if s then -v else v) = signFactor s * v := by
  cases s <;> simp [signFactor]

/-- A distance to a signed magnitude is one to the magnitude. -/
theorem abs_sub_signFactor_mul (s : Bool) (x v : ℚ) : |x - signFactor s * v| = |signFactor s * x - v| := by
  have h : x - signFactor s * v = signFactor s * (signFactor s * x - v) := by
    rw [mul_sub, ← mul_assoc, signFactor_mul_self, one_mul]
  rw [h, abs_mul, abs_signFactor, one_mul]

section
variable (F : Format)

/-- The value of the least subnormal magnitude. -/
def Format.least : ℚ := (2 : ℚ) ^ (F.emin - F.T)

theorem Format.least_pos : 0 < F.least := by unfold Format.least; positivity

theorem Format.value_eq (x : Nat) : F.value x = signFactor (F.sign x) * (F.scaled (F.body x) * F.least) := by
  rw [F.value_eq_scaled, cast_signedInt, mul_assoc]
  rfl

theorem Format.abs_value (x : Nat) : |F.value x| = F.scaled (F.body x) * F.least := by
  rw [F.value_eq, abs_mul, abs_signFactor, one_mul, abs_of_nonneg (mul_nonneg (Nat.cast_nonneg _) F.least_pos.le)]

/-- The unit of a binade in units of the least one. -/
theorem Format.two_zpow_unit {E : Int} (hE : F.emin ≤ E) : (2 : ℚ) ^ (E - F.T) = 2 ^ (E - F.emin).toNat * F.least := by
  rw [Format.least, ← zpow_natCast, ← zpow_add₀ two_ne_zero, Int.toNat_of_nonneg (by omega)]
  congr 1
  ring

/-- R156: the body that the rounding packs, before the clamp to infinity. -/
def Format.roundBody (v : ℚ) : Nat := (F.binade v - F.emin).toNat * 2 ^ F.T + F.significand v

theorem Format.expOnes_mul_lt : F.expOnes * 2 ^ F.T < 2 ^ (F.W + F.T) := by
  rw [pow_add]
  exact Nat.mul_lt_mul_of_pos_right (Nat.sub_lt (by positivity) one_pos) (by positivity)

theorem Format.round_eq_pack (s : Bool) {v : ℚ} (hv : v ≠ 0) (h : ¬F.Overflows (F.binade v) (F.significand v)) :
    F.round s v = F.pack s (F.roundBody v) := by
  rw [F.round_of_ne_zero s hv]
  exact congrArg (F.pack s) (min_eq_left (not_le.1 h).le)

/-- R156: a significand has at most `T + 1` bits, or is the next power of two. -/
theorem Format.significand_le {v : ℚ} (hv : 0 ≤ v) : F.significand v ≤ 2 * 2 ^ F.T := by
  refine roundHalfEven_le (by positivity) ?_
  rw [div_le_iff₀ (by positivity)]
  calc v ≤ (2 : ℚ) ^ (F.binade v + 1) := (F.lt_two_zpow_binade v).le
    _ = _ := by rw [zpow_add_one₀ two_ne_zero, F.two_zpow_binade_eq]; push_cast; ring

/-- R156: the magnitude of the packed body is the rounded significand in units of the binade. -/
theorem Format.scaled_roundBody (hT : 1 ≤ F.T) {v : ℚ} (hv : 0 < v) :
    F.scaled (F.roundBody v) * F.least = F.significand v * (2 : ℚ) ^ (F.binade v - F.T) := by
  have hlead : (F.binade v - F.emin).toNat ≠ 0 → 2 ^ F.T ≤ F.significand v := fun h =>
    Format.two_pow_le_significand hT hv (by omega)
  rw [Format.roundBody, F.scaled_add hlead (F.significand_le hv.le), F.two_zpow_unit (F.emin_le_binade v)]
  push_cast
  ring

theorem Format.value_pack (s : Bool) {b : Nat} (hb : b < 2 ^ (F.W + F.T)) :
    F.value (F.pack s b) = signFactor s * (F.scaled b * F.least) := by
  rw [F.value_eq, F.sign_pack s hb, F.body_pack s hb]

/-- A body is a multiple of the unit of a binade or lies below the binade. -/
theorem Format.scaled_dvd_or_lt (b d : Nat) : 2 ^ d ∣ F.scaled b ∨ (d ≠ 0 ∧ F.scaled b < 2 ^ F.T * 2 ^ d) := by
  obtain ⟨d', N, rfl, hlead, hcarry, -⟩ := F.exists_significand b
  rw [F.scaled_add hlead hcarry.le]
  obtain hle | hlt := le_or_gt d d'
  · exact .inl ((pow_dvd_pow 2 hle).mul_left N)
  · refine .inr ⟨by omega, ?_⟩
    calc N * 2 ^ d' < 2 * 2 ^ F.T * 2 ^ d' := Nat.mul_lt_mul_of_pos_right hcarry (by positivity)
      _ = 2 ^ F.T * 2 ^ (d' + 1) := by ring
      _ ≤ 2 ^ F.T * 2 ^ d := Nat.mul_le_mul_left _ (Nat.pow_le_pow_right two_pos hlt)

/-- A signed finite value is an integer multiple of the unit of a binade `E` or lies below `2^E`, a magnitude of the next one down. -/
theorem Format.value_multiple_or_lt (s : Bool) (y : Nat) {E : Int} (hE : F.emin ≤ E) :
    (∃ k : Int, signFactor s * F.value y = k * (2 : ℚ) ^ (E - F.T)) ∨ (F.emin < E ∧ signFactor s * F.value y < (2 : ℚ) ^ E) := by
  have hfactor : signFactor s * signFactor (F.sign y) ≤ 1 ∧ ∃ j : Int, signFactor s * signFactor (F.sign y) = j := by
    cases s <;> cases F.sign y
    all_goals norm_num [signFactor]
    exacts [⟨1, by norm_num⟩, ⟨-1, by norm_num⟩, ⟨-1, by norm_num⟩, ⟨1, by norm_num⟩]
  obtain ⟨hfactor, j, hj⟩ := hfactor
  have hvalue : signFactor s * F.value y = j * (F.scaled (F.body y) * F.least) := by
    rw [F.value_eq, ← mul_assoc, hj]
  obtain ⟨m, hm⟩ | ⟨hd, hlt⟩ := F.scaled_dvd_or_lt (F.body y) (E - F.emin).toNat
  · refine .inl ⟨j * m, ?_⟩
    rw [hvalue, hm, F.two_zpow_unit hE]
    push_cast
    ring
  · refine .inr ⟨by omega, ?_⟩
    have hlt' : (F.scaled (F.body y) : ℚ) < 2 ^ F.T * 2 ^ (E - F.emin).toNat := by exact_mod_cast hlt
    calc signFactor s * F.value y ≤ 1 * (F.scaled (F.body y) * F.least) := by
          rw [hvalue, ← hj]
          exact mul_le_mul_of_nonneg_right hfactor (mul_nonneg (Nat.cast_nonneg _) F.least_pos.le)
      _ < 2 ^ F.T * 2 ^ (E - F.emin).toNat * F.least := by
          rw [one_mul]
          exact mul_lt_mul_of_pos_right hlt' F.least_pos
      _ = (2 : ℚ) ^ E := by
          rw [mul_assoc, ← F.two_zpow_unit hE, ← zpow_natCast, ← zpow_add₀ two_ne_zero]
          congr 1
          ring

end

/-! ### The nearest representable value (R156) -/

/-- R156: no finite value lies nearer to a magnitude than its rounded significand, and of two nearest the significand is even. A value below
the binade is farther away than the least magnitude of the binade. -/
theorem Format.significand_nearest (F : Format) (s : Bool) {v : ℚ} (hv : 0 < v) (y : Nat) :
    |F.significand v * (2 : ℚ) ^ (F.binade v - F.T) - v| ≤ |signFactor s * F.value y - v| ∧
    (|F.significand v * (2 : ℚ) ^ (F.binade v - F.T) - v| = |signFactor s * F.value y - v| →
      signFactor s * F.value y ≠ F.significand v * (2 : ℚ) ^ (F.binade v - F.T) → F.significand v % 2 = 0) := by
  have hunit : (0 : ℚ) < (2 : ℚ) ^ (F.binade v - F.T) := by positivity
  set unit := (2 : ℚ) ^ (F.binade v - F.T) with hunit_def
  have hn : 0 ≤ v / unit := by positivity
  have hscale (k : ℚ) : |k * unit - v| = |k - v / unit| * unit := by
    rw [← abs_of_pos hunit, ← abs_mul, abs_of_pos hunit, sub_mul, div_mul_cancel₀ _ hunit.ne']
  have hnearest (k : Int) : |F.significand v * unit - v| ≤ |k * unit - v| := by
    rw [hscale, hscale]
    exact mul_le_mul_of_nonneg_right (abs_roundHalfEven_sub_le hn k) hunit.le
  obtain ⟨k, hk⟩ | ⟨hmin, hlt⟩ := F.value_multiple_or_lt s y (F.emin_le_binade v)
  · rw [hk]
    refine ⟨hnearest k, fun htie hne => ?_⟩
    rw [hscale, hscale, mul_left_inj' hunit.ne'] at htie
    exact even_roundHalfEven_of_tie hn htie fun h => hne (by rw [h]; rfl)
  · have hbinade : (2 : ℚ) ^ F.binade v ≤ v := Format.two_zpow_binade_le hv hmin
    have hfar : |F.significand v * unit - v| < |signFactor s * F.value y - v| :=
      calc |F.significand v * unit - v| ≤ |((2 ^ F.T : Nat) : Int) * unit - v| := hnearest _
        _ = v - (2 : ℚ) ^ F.binade v := by
          rw [F.two_zpow_binade_eq v, ← hunit_def, abs_sub_comm, abs_of_nonneg]
          · push_cast; rfl
          · rw [F.two_zpow_binade_eq v] at hbinade
            push_cast
            linarith
        _ < v - signFactor s * F.value y := by linarith
        _ ≤ |signFactor s * F.value y - v| := by rw [abs_sub_comm]; exact le_abs_self _
    exact ⟨hfar.le, fun htie => absurd htie hfar.ne⟩

/-- R156: the parity of a packed body is that of its significand. -/
theorem Format.pack_roundBody_mod_two {F : Format} (hT : 1 ≤ F.T) (s : Bool) (v : ℚ) :
    F.pack s (F.roundBody v) % 2 = F.significand v % 2 := by
  obtain ⟨k, hk⟩ := Nat.exists_eq_add_of_le' hT
  have heven : F.pack s (F.roundBody v) =
      F.significand v + 2 * (s.toNat * 2 ^ (F.W + k) + (F.binade v - F.emin).toNat * 2 ^ k) := by
    rw [Format.pack, Format.roundBody, hk]
    ring
  rw [heven, Nat.add_mul_mod_self_left]

/-- Settles O40: without overflow the packed value is the rounded significand in units of its binade, which is nearest
(`Format.significand_nearest`) and whose parity is that of the pattern. -/
theorem roundingIsToNearestEven : Obligations.RoundingIsToNearestEven := by
  intro F hF s v hv hbound
  obtain ⟨hW, hT⟩ : 2 ≤ F.W ∧ 1 ≤ F.T := (by decide : ∀ F ∈ threeFormats, 2 ≤ F.W ∧ 1 ≤ F.T) F hF
  obtain rfl | hpos := hv.eq_or_lt
  · have hround : F.round s 0 = F.pack s 0 := if_pos rfl
    have hzero : F.value (F.pack s 0) = 0 := by rw [F.value_pack s (by positivity)]; simp
    rw [hround, F.sign_pack s (by positivity), hzero]
    refine ⟨rfl, fun y _ _ => ⟨by simp, fun htie hne => absurd ?_ hne⟩⟩
    simpa using htie.symm
  · have hfinite : ¬F.Overflows (F.binade v) (F.significand v) := by
      rw [F.overflows_iff_overflowBound_le hW hT hpos]
      exact hbound.not_ge
    have hbody : F.roundBody v < 2 ^ (F.W + F.T) := (not_le.1 hfinite).trans F.expOnes_mul_lt
    have hvalue : F.value (F.pack s (F.roundBody v)) = signFactor s * (F.significand v * (2 : ℚ) ^ (F.binade v - F.T)) := by
      rw [F.value_pack s hbody, F.scaled_roundBody hT hpos]
    rw [F.round_eq_pack s hpos.ne' hfinite, F.sign_pack s hbody, signFactor_mul, Format.pack_roundBody_mod_two hT]
    refine ⟨rfl, fun y _ _ => ?_⟩
    rw [abs_sub_signFactor_mul, abs_sub_signFactor_mul, hvalue, ← mul_assoc, signFactor_mul_self, one_mul]
    obtain ⟨hnearest, htie⟩ := F.significand_nearest s hpos y
    refine ⟨hnearest, fun h hne => htie h fun hsame => hne ?_⟩
    rw [← hsame, ← mul_assoc, signFactor_mul_self, one_mul]

/-! ### Representable magnitudes (R156) -/

/-- A representable magnitude is its own rounding. -/
theorem Format.round_scaled (F : Format) (s : Bool) {b : Nat} (hb : b < F.expOnes * 2 ^ F.T) :
    F.round s (F.scaled b * F.least) = F.pack s b := by
  rcases Nat.eq_zero_or_pos b with rfl | hpos
  · simp [Format.round]
  obtain ⟨d, N, rfl, hlead, hcarry, -⟩ := F.exists_significand b
  have hN : N ≠ 0 := by
    rintro rfl
    rcases eq_or_ne d 0 with rfl | hd
    · simp at hpos
    · exact absurd (hlead hd) (by simp)
  have hbits : bitlen N ≤ F.T + 1 := by
    rw [← not_lt, lt_bitlen_iff, pow_succ]
    omega
  have hE : F.binade (N * (2 : ℚ) ^ (F.emin + d - F.T)) = F.emin + d := by
    have hlog := log_add_mul_two_zpow hN le_rfl one_pos (F.emin + d - F.T)
    rw [add_zero] at hlog
    rw [Format.binade, hlog]
    rcases eq_or_ne d 0 with rfl | hd
    · omega
    · have : F.T < bitlen N := lt_bitlen_iff.2 (hlead hd)
      omega
  have hvalue : F.scaled (d * 2 ^ F.T + N) * F.least = N * (2 : ℚ) ^ (F.emin + d - F.T) := by
    rw [F.scaled_add hlead hcarry.le, F.two_zpow_unit (by omega)]
    push_cast
    rw [add_sub_cancel_left, Int.toNat_natCast]
    ring
  have hsignificand : F.significand (N * (2 : ℚ) ^ (F.emin + d - F.T)) = N := by
    rw [Format.significand, hE, mul_div_cancel_right₀ _ (by positivity), roundHalfEven_natCast]
  rw [hvalue, F.round_of_ne_zero s (by positivity), hsignificand, hE, Format.finish, add_sub_cancel_left, Int.toNat_natCast,
    min_eq_left hb.le]

theorem Format.body_lt_of_finite {F : Format} {x : Nat} (h : F.exponent x ≠ F.expOnes) : F.body x < F.expOnes * 2 ^ F.T := by
  have hlt : F.exponent x < 2 ^ F.W := F.exponent_lt x
  rw [← Nat.div_lt_iff_lt_mul (by positivity), F.body_div]
  unfold Format.expOnes at *
  omega

/-- A finite pattern is the rounding of its own magnitude. -/
theorem Format.round_abs_value {F : Format} {x : Nat} (hx : x < 2 ^ F.width) (h : F.exponent x ≠ F.expOnes) :
    F.round (F.sign x) |F.value x| = x := by
  rw [F.abs_value, F.round_scaled _ (Format.body_lt_of_finite h), F.pack_sign_body hx]

end Sys2Proof.Machine
end

section
/-! Quad arithmetic (44_quad_arith.md): the finite cases are the exact results rounded once (R181 to R184), since rounding by integers is
exact rounding (R157); the special cases are those of R185 to R187. -/

namespace Sys2Proof.Machine

/-! ### Quads (R150, R154) -/

theorem sign_formatQ (x : Quad) : formatQ.sign x.toNat = x.msb := x.msb_eq_getLsbD_last.symm

theorem unpackQ_s (x : Quad) : (unpackQ x).s = x.msb := by
  rw [unpackQ, Format.unpack, ← sign_formatQ]
  split <;> rfl

theorem valueQ_eq_unpackQ (x : Quad) : valueQ x = signFactor x.msb * ((unpackQ x).m * (2 : ℚ) ^ (unpackQ x).q) := by
  rw [← unpackQ_s, ← mul_assoc, ← cast_signedInt]
  rfl

theorem abs_valueQ (x : Quad) : |valueQ x| = (unpackQ x).m * (2 : ℚ) ^ (unpackQ x).q := by
  rw [valueQ_eq_unpackQ, abs_mul, abs_signFactor, one_mul, abs_of_nonneg (by positivity)]

theorem zeroQ_eq_signedZero (s : Bool) : zeroQ s = signedZero s := by cases s <;> decide

theorem infQ_eq_signedInf (s : Bool) : infQ s = signedInf s := by cases s <;> decide

theorem qnanDefault_eq_defaultNaN : qnanDefault = defaultNaN := by decide

theorem isNaN_of_not_nanBits {x : Quad} (h : ¬nanBits x) : isNaN x = false := Bool.eq_false_iff.2 (mt (isNaN_iff_nanBits x).1 h)

theorem isInf_of_finiteBits {x : Quad} (h : finiteBits x) : isInf x = false :=
  (isFinite_iff.1 ((isFinite_iff_finiteBits x).2 h)).2

theorem not_nanBits_of_finiteBits {x : Quad} (h : finiteBits x) : ¬nanBits x := fun hnan => h hnan.1

theorem isZero_of_not_zeroBits {x : Quad} (h : ¬zeroBits x) : isZero x = false :=
  Bool.eq_false_iff.2 (mt (isZero_iff_zeroBits x).1 h)

theorem not_zeroBits_of_infBits {x : Quad} (h : infBits x) : ¬zeroBits x := fun hzero =>
  absurd ((zeroBits_iff x).1 hzero).1 (by rw [h.1]; decide)

/-- R157: the two roundings of quads agree. -/
theorem roundPackQ_eq_roundQ (s : Bool) (M : Nat) (x : Int) : roundPackQ s M x = roundQ s (M * (2 : ℚ) ^ x) :=
  congrArg (BitVec.ofNat 128) (formatQ.roundPackInt_eq_round s M x)

/-! ### Finite operands (R181, R183, R184) -/

/-- R181: the sum of two significands aligned to an exponent that is at most both of theirs. -/
theorem aligned_sum (s s' : Bool) (m m' : Nat) {q x x' : Int} (hx : q ≤ x) (hx' : q ≤ x') :
    ((signedInt s m * 2 ^ (x - q).toNat + signedInt s' m' * 2 ^ (x' - q).toNat : Int) : ℚ) * (2 : ℚ) ^ q =
      signFactor s * (m * (2 : ℚ) ^ x) + signFactor s' * (m' * (2 : ℚ) ^ x') := by
  have halign {y : Int} (hy : q ≤ y) : (2 : ℚ) ^ y = 2 ^ (y - q).toNat * (2 : ℚ) ^ q := by
    rw [← zpow_natCast, ← zpow_add₀ two_ne_zero, Int.toNat_of_nonneg (by omega), sub_add_cancel]
  rw [halign hx, halign hx']
  push_cast
  rw [cast_signedInt, cast_signedInt]
  ring

/-- R181: the exact sum rounded once. -/
theorem addFinite_eq (a b : Quad) :
    addFinite a b = if valueQ a + valueQ b = 0 then signedZero (a.msb && b.msb)
      else roundQ (decide (valueQ a + valueQ b < 0)) |valueQ a + valueQ b| := by
  have hsum := aligned_sum (unpackQ a).s (unpackQ b).s (unpackQ a).m (unpackQ b).m
    (min_le_left (unpackQ a).q (unpackQ b).q) (min_le_right (unpackQ a).q (unpackQ b).q)
  unfold addFinite
  dsimp only
  rw [unpackQ_s, unpackQ_s, ← valueQ_eq_unpackQ, ← valueQ_eq_unpackQ] at *
  set q := min (unpackQ a).q (unpackQ b).q
  set t : Int := signedInt a.msb (unpackQ a).m * 2 ^ ((unpackQ a).q - q).toNat +
    signedInt b.msb (unpackQ b).m * 2 ^ ((unpackQ b).q - q).toNat
  have hunit : (0 : ℚ) < (2 : ℚ) ^ q := by positivity
  have hzero : valueQ a + valueQ b = 0 ↔ t = 0 := by
    rw [← hsum, mul_eq_zero_iff_right hunit.ne', Int.cast_eq_zero]
  have hneg : valueQ a + valueQ b < 0 ↔ t < 0 := by
    rw [← hsum, ← not_le, ← not_le, mul_nonneg_iff_of_pos_right hunit, Int.cast_nonneg_iff]
  have habs : |valueQ a + valueQ b| = t.natAbs * (2 : ℚ) ^ q := by
    rw [← hsum, abs_mul, abs_of_pos hunit, ← Int.cast_abs, Int.abs_eq_natAbs, Int.cast_natCast]
  simp only [hzero, hneg, habs, roundPackQ_eq_roundQ, zeroQ_eq_signedZero]

/-- R183: the exact product rounded once. -/
theorem roundPackQ_mul (s : Bool) (a b : Quad) :
    roundPackQ s ((unpackQ a).m * (unpackQ b).m) ((unpackQ a).q + (unpackQ b).q) = roundQ s |valueQ a * valueQ b| := by
  rw [roundPackQ_eq_roundQ, abs_mul, abs_valueQ, abs_valueQ, zpow_add₀ two_ne_zero]
  congr 1
  push_cast
  ring

/-- R155: a significand has at most 113 bits, and is zero for a zero only. -/
theorem unpackQ_m_lt (x : Quad) : (unpackQ x).m < 2 ^ 113 := by
  have hfraction : formatQ.fraction x.toNat < 2 ^ 112 := formatQ.fraction_lt _
  unfold unpackQ Format.unpack
  split
  · exact hfraction.trans (by decide)
  · change 2 ^ 112 + _ < 2 ^ 113
    omega

theorem unpackQ_m_ne_zero {x : Quad} (h : ¬zeroBits x) : (unpackQ x).m ≠ 0 := by
  rw [← isZero_iff_zeroBits, isZero, classQ, decide_eq_true_iff, Format.classify_eq_zero_iff] at h
  unfold unpackQ Format.unpack
  split
  next hexp => exact fun hm => h ⟨hexp, hm⟩
  next => exact (Nat.add_pos_left (by positivity) _).ne'

/-- R184: normalising keeps the magnitude and gives the significand its leading bit. -/
theorem normalise_spec {u : Unpacked} (hm : u.m ≠ 0) (hlt : u.m < 2 ^ 113) :
    2 ^ 112 ≤ (normalise u).m ∧ (normalise u).m < 2 ^ 113 ∧
    ((normalise u).m : ℚ) * (2 : ℚ) ^ (normalise u).q = u.m * (2 : ℚ) ^ u.q := by
  have hL : bitlen u.m ≤ 113 := not_lt.1 (mt lt_bitlen_iff.1 hlt.not_ge)
  have hL0 := Nat.pos_of_ne_zero (bitlen_ne_zero hm)
  obtain ⟨hlow, hhigh⟩ := bitlen_bounds hm
  refine ⟨?_, ?_, ?_⟩
  · calc 2 ^ 112 = 2 ^ (bitlen u.m - 1) * 2 ^ (113 - bitlen u.m) := by rw [← pow_add]; congr 1; omega
      _ ≤ (normalise u).m := Nat.mul_le_mul_right _ hlow
  · calc (normalise u).m < 2 ^ bitlen u.m * 2 ^ (113 - bitlen u.m) := Nat.mul_lt_mul_of_pos_right hhigh (by positivity)
      _ = 2 ^ 113 := by rw [← pow_add]; congr 1; omega
  · simp only [normalise]
    push_cast
    rw [mul_assoc, ← zpow_natCast, ← zpow_add₀ two_ne_zero]
    congr 2
    omega

/-- R184: the quotient of normalised significands, with its remainder as a sticky bit (R158), rounds as the exact quotient does. -/
theorem roundPackQ_quotient (s : Bool) {m n : Nat} (hm : 2 ^ 112 ≤ m) (hn : 2 ^ 112 ≤ n) (hn' : n < 2 ^ 113) (x y : Int) :
    roundPackQ s (2 * (m * 2 ^ 115 / n) + if m * 2 ^ 115 % n ≠ 0 then 1 else 0) (x - y - 116) =
      roundQ s (m * (2 : ℚ) ^ x / (n * (2 : ℚ) ^ y)) := by
  have hpos : 0 < n := Nat.lt_of_lt_of_le (by positivity) hn
  have hposQ : (0 : ℚ) < n := by exact_mod_cast hpos
  set K := m * 2 ^ 115 / n with hK
  set R := m * 2 ^ 115 % n with hR
  have hRlt : R < n := Nat.mod_lt _ hpos
  have hbits : 2 ^ 113 ≤ K := by
    rw [hK, Nat.le_div_iff_mul_le hpos]
    calc 2 ^ 113 * n ≤ 2 ^ 113 * 2 ^ 113 := by gcongr
      _ ≤ 2 ^ 112 * 2 ^ 115 := by norm_num
      _ ≤ m * 2 ^ 115 := by gcongr
  have hdivmod : (m : ℚ) * 2 ^ 115 = n * K + R := by exact_mod_cast (Nat.div_add_mod (m * 2 ^ 115) n).symm
  have hrest : (R : ℚ) / n < 1 := by rw [div_lt_one hposQ]; exact_mod_cast hRlt
  have hsticky : ((R : ℚ) / n ≠ 0) ↔ R ≠ 0 := by simp [hpos.ne']
  have hexact : (m * (2 : ℚ) ^ x / (n * (2 : ℚ) ^ y)) = (K + R / n) * (2 : ℚ) ^ (x - y - 115) := by
    have hscale : (2 : ℚ) ^ (x - y - 115) = (2 : ℚ) ^ x / (2 : ℚ) ^ y / 2 ^ 115 := by
      rw [zpow_sub₀ two_ne_zero, zpow_sub₀ two_ne_zero]
      norm_num
    have hquotient : (K : ℚ) + R / n = m * 2 ^ 115 / n := by rw [hdivmod]; field_simp
    rw [hscale, hquotient]
    field_simp
  have hround := formatQ.round_sticky s hbits (t := R / n) (by positivity) hrest (x - y - 115)
  rw [hexact, roundQ, hround, roundPackQ]
  simp only [hsticky]
  congr 2
  ring

/-- R184: the exact quotient rounded once. -/
theorem divFinite_eq (s : Bool) {a b : Quad} (ha : ¬zeroBits a) (hb : ¬zeroBits b) :
    divFinite s a b = roundQ s (|valueQ a| / |valueQ b|) := by
  obtain ⟨hma, -, hva⟩ := normalise_spec (unpackQ_m_ne_zero ha) (unpackQ_m_lt a)
  obtain ⟨hmb, hmb', hvb⟩ := normalise_spec (unpackQ_m_ne_zero hb) (unpackQ_m_lt b)
  rw [abs_valueQ, abs_valueQ, ← hva, ← hvb, ← roundPackQ_quotient s hma hmb hmb']
  unfold divFinite
  dsimp only
  rw [Nat.mod_def, Nat.mul_comm (normalise (unpackQ b)).m]

end Sys2Proof.Machine
end

section
/-! Quad arithmetic (44_quad_arith.md): the four operations case by case, where they answer a NaN, and their laws. -/

namespace Sys2Proof.Machine

theorem isInf_of_infBits {x : Quad} (h : infBits x) : isInf x = true := (isInf_iff_infBits x).2 h

theorem not_finiteBits_iff {x : Quad} (h : ¬nanBits x) : ¬finiteBits x ↔ infBits x := by
  rw [← isNaN_or_isInf_iff_not_finiteBits, isNaN_of_not_nanBits h, Bool.false_or, isInf_iff_infBits]

theorem infBits_or_finiteBits {x : Quad} (h : ¬nanBits x) : infBits x ∨ finiteBits x := by
  rw [← not_finiteBits_iff h]
  exact (em _).symm

theorem zeroBits.finiteBits {x : Quad} (h : zeroBits x) : finiteBits x := by
  obtain ⟨hexp, -⟩ := (zeroBits_iff x).1 h
  unfold Machine.finiteBits
  rw [hexp]
  decide

section
variable {a b : Quad} (ha : ¬nanBits a) (hb : ¬nanBits b)
include ha hb

/-! ### QADD (R181, R185) -/

theorem qaddValue_of_inf_inf (hia : infBits a) (hib : infBits b) : qaddValue a b = if a.msb = b.msb then a else defaultNaN := by
  simp [qaddValue, isNaN_of_not_nanBits ha, isNaN_of_not_nanBits hb, isInf_of_infBits hia, isInf_of_infBits hib, signQ,
    qnanDefault_eq_defaultNaN]

theorem qaddValue_of_inf_finite (hia : infBits a) (hfb : finiteBits b) : qaddValue a b = a := by
  simp [qaddValue, isNaN_of_not_nanBits ha, isNaN_of_not_nanBits hb, isInf_of_infBits hia, isInf_of_finiteBits hfb]

theorem qaddValue_of_finite_inf (hfa : finiteBits a) (hib : infBits b) : qaddValue a b = b := by
  simp [qaddValue, isNaN_of_not_nanBits ha, isNaN_of_not_nanBits hb, isInf_of_finiteBits hfa, isInf_of_infBits hib]

theorem qaddValue_of_finite (hfa : finiteBits a) (hfb : finiteBits b) : qaddValue a b = addFinite a b := by
  simp [qaddValue, isNaN_of_not_nanBits ha, isNaN_of_not_nanBits hb, isInf_of_finiteBits hfa, isInf_of_finiteBits hfb]

/-! ### QMUL (R183, R186) -/

theorem qmulValue_of_inf_zero (h : (infBits a ∧ zeroBits b) ∨ (zeroBits a ∧ infBits b)) : qmulValue a b = defaultNaN := by
  obtain ⟨hia, hzb⟩ | ⟨hza, hib⟩ := h
  · simp [qmulValue, isNaN_of_not_nanBits ha, isNaN_of_not_nanBits hb, isInf_of_infBits hia, (isZero_iff_zeroBits b).2 hzb,
      qnanDefault_eq_defaultNaN]
  · simp [qmulValue, isNaN_of_not_nanBits ha, isNaN_of_not_nanBits hb, isInf_of_infBits hib, (isZero_iff_zeroBits a).2 hza,
      qnanDefault_eq_defaultNaN]

theorem qmulValue_of_inf_nonzero (h : (infBits a ∧ ¬zeroBits b) ∨ (¬zeroBits a ∧ infBits b)) :
    qmulValue a b = signedInf (a.msb.xor b.msb) := by
  obtain ⟨hia, hzb⟩ | ⟨hza, hib⟩ := h
  · simp [qmulValue, isNaN_of_not_nanBits ha, isNaN_of_not_nanBits hb, isInf_of_infBits hia, isZero_of_not_zeroBits hzb,
      isZero_of_isInf (isInf_of_infBits hia), infQ_eq_signedInf, signQ]
  · simp [qmulValue, isNaN_of_not_nanBits ha, isNaN_of_not_nanBits hb, isInf_of_infBits hib, isZero_of_not_zeroBits hza,
      isZero_of_isInf (isInf_of_infBits hib), infQ_eq_signedInf, signQ]

theorem qmulValue_of_finite (hfa : finiteBits a) (hfb : finiteBits b) :
    qmulValue a b = roundQ (a.msb.xor b.msb) |valueQ a * valueQ b| := by
  rw [← roundPackQ_mul]
  simp [qmulValue, isNaN_of_not_nanBits ha, isNaN_of_not_nanBits hb, isInf_of_finiteBits hfa, isInf_of_finiteBits hfb, signQ]

/-! ### QDIV (R184, R187) -/

theorem qdivValue_of_invalid (h : (infBits a ∧ infBits b) ∨ (zeroBits a ∧ zeroBits b)) : qdivValue a b = defaultNaN := by
  obtain ⟨hia, hib⟩ | ⟨hza, hzb⟩ := h
  · simp [qdivValue, isNaN_of_not_nanBits ha, isNaN_of_not_nanBits hb, isInf_of_infBits hia, isInf_of_infBits hib,
      qnanDefault_eq_defaultNaN]
  · simp [qdivValue, isNaN_of_not_nanBits ha, isNaN_of_not_nanBits hb, isInf_of_finiteBits hza.finiteBits,
      isInf_of_finiteBits hzb.finiteBits, (isZero_iff_zeroBits a).2 hza, (isZero_iff_zeroBits b).2 hzb, qnanDefault_eq_defaultNaN]

theorem qdivValue_of_infinite (h : (infBits a ∧ finiteBits b) ∨ (finiteBits a ∧ ¬zeroBits a ∧ zeroBits b)) :
    qdivValue a b = signedInf (a.msb.xor b.msb) := by
  obtain ⟨hia, hfb⟩ | ⟨hfa, hza, hzb⟩ := h
  · simp [qdivValue, isNaN_of_not_nanBits ha, isNaN_of_not_nanBits hb, isInf_of_infBits hia, isInf_of_finiteBits hfb,
      infQ_eq_signedInf, signQ]
  · simp [qdivValue, isNaN_of_not_nanBits ha, isNaN_of_not_nanBits hb, isInf_of_finiteBits hfa, isInf_of_finiteBits hzb.finiteBits,
      isZero_of_not_zeroBits hza, (isZero_iff_zeroBits b).2 hzb, infQ_eq_signedInf, signQ]

theorem qdivValue_of_zero (h : (finiteBits a ∧ infBits b) ∨ (zeroBits a ∧ finiteBits b ∧ ¬zeroBits b)) :
    qdivValue a b = signedZero (a.msb.xor b.msb) := by
  obtain ⟨hfa, hib⟩ | ⟨hza, hfb, hzb⟩ := h
  · simp [qdivValue, isNaN_of_not_nanBits ha, isNaN_of_not_nanBits hb, isInf_of_finiteBits hfa, isInf_of_infBits hib,
      zeroQ_eq_signedZero, signQ]
  · simp [qdivValue, isNaN_of_not_nanBits ha, isNaN_of_not_nanBits hb, isInf_of_finiteBits hza.finiteBits, isInf_of_finiteBits hfb,
      isZero_of_not_zeroBits hzb, (isZero_iff_zeroBits a).2 hza, zeroQ_eq_signedZero, signQ]

theorem qdivValue_of_finite (hfa : finiteBits a) (hfb : finiteBits b) (hza : ¬zeroBits a) (hzb : ¬zeroBits b) :
    qdivValue a b = roundQ (a.msb.xor b.msb) (|valueQ a| / |valueQ b|) := by
  rw [← divFinite_eq _ hza hzb]
  simp [qdivValue, isNaN_of_not_nanBits ha, isNaN_of_not_nanBits hb, isInf_of_finiteBits hfa, isInf_of_finiteBits hfb,
    isZero_of_not_zeroBits hza, isZero_of_not_zeroBits hzb, signQ]

end

/-! ### The sign bit flipped (R182) -/

/-- Flipping the sign keeps the fields. -/
theorem flipSign_fields (x : Quad) : (flipSign x).extractLsb' 112 15 = x.extractLsb' 112 15 ∧
    (flipSign x).extractLsb' 0 112 = x.extractLsb' 0 112 ∧ (flipSign x).msb = !x.msb := by
  unfold flipSign
  refine ⟨?_, ?_, ?_⟩
  · rw [BitVec.extractLsb'_xor, (by decide : (1#128 <<< 127).extractLsb' 112 15 = 0#15), BitVec.xor_zero]
  · rw [BitVec.extractLsb'_xor, (by decide : (1#128 <<< 127).extractLsb' 0 112 = 0#112), BitVec.xor_zero]
  · rw [BitVec.msb_xor, (by decide : (1#128 <<< 127).msb = true), Bool.xor_true]

theorem valueQ_flipSign (x : Quad) : valueQ (flipSign x) = -valueQ x := by
  obtain ⟨hexp, hfraction, hmsb⟩ := flipSign_fields x
  have hunpack : unpackQ (flipSign x) = { unpackQ x with s := !x.msb } := by
    simp only [unpackQ, Format.unpack, exponent_formatQ, fraction_formatQ, sign_formatQ, hexp, hfraction, hmsb]
    split <;> rfl
  rw [valueQ_eq_unpackQ, valueQ_eq_unpackQ, hunpack, hmsb]
  cases x.msb <;> simp [signFactor]

theorem nanBits_flipSign (x : Quad) : nanBits (flipSign x) ↔ nanBits x := by
  obtain ⟨hexp, hfraction, -⟩ := flipSign_fields x
  rw [nanBits, hexp, hfraction]

theorem infBits_flipSign (x : Quad) : infBits (flipSign x) ↔ infBits x := by
  obtain ⟨hexp, hfraction, -⟩ := flipSign_fields x
  rw [infBits, hexp, hfraction]

theorem finiteBits_flipSign (x : Quad) : finiteBits (flipSign x) ↔ finiteBits x := by
  obtain ⟨hexp, -, -⟩ := flipSign_fields x
  rw [finiteBits, hexp]

theorem qsubValue_eq {a b : Quad} (ha : ¬nanBits a) (hb : ¬nanBits b) : qsubValue a b = qaddValue a (flipSign b) := by
  simp [qsubValue, isNaN_of_not_nanBits ha, isNaN_of_not_nanBits hb]

/-! ### Quads from their fields (R150) -/

theorem Format.ofFields_sign_exponent_fraction (F : Format) {x : Nat} (hx : x < 2 ^ F.width) :
    F.ofFields (F.sign x) (F.exponent x) (F.fraction x) = x := by
  rw [Format.ofFields, ← F.body_div, ← F.body_mod, Nat.div_add_mod', F.pack_sign_body hx]

/-- A quad is its sign, its exponent field and its fraction. -/
theorem eq_ofNat_ofFields (x : Quad) :
    x = BitVec.ofNat 128 (formatQ.ofFields x.msb (formatQ.exponent x.toNat) (formatQ.fraction x.toNat)) := by
  rw [← sign_formatQ, formatQ.ofFields_sign_exponent_fraction x.isLt, BitVec.ofNat_toNat, BitVec.setWidth_eq]

/-- An infinity is that of its sign. -/
theorem eq_signedInf {x : Quad} (h : infBits x) : x = signedInf x.msb := by
  obtain ⟨hexp, hfraction⟩ := h
  rw [← infQ_eq_signedInf]
  nth_rw 1 [eq_ofNat_ofFields x, exponent_formatQ, fraction_formatQ, hexp, hfraction]
  rfl

/-- A zero is that of its sign. -/
theorem eq_signedZero {x : Quad} (h : zeroBits x) : x = signedZero x.msb := by
  obtain ⟨hexp, hfraction⟩ := (zeroBits_iff x).1 h
  rw [← zeroQ_eq_signedZero]
  nth_rw 1 [eq_ofNat_ofFields x, exponent_formatQ, fraction_formatQ, hexp, hfraction]
  rfl

/-! ### The results of the four operations -/

/-- R68: the answer of an operation whose pattern is rewritten. -/
theorem answersWide_of_value {i : Instr} {x y : Wide} (hi : resultOf i = resultWide x) (h : x = y) (s : State) : AnswersWide i s y :=
  answersWide_of_resultOf (h ▸ hi) s

/-- Settles O44: the cases of `qaddValue`; the finite one is the exact sum rounded once (`addFinite_eq`). -/
theorem quadSumIsRoundedOnce : Obligations.QuadSumIsRoundedOnce := by
  intro a b s ha hb
  refine ⟨fun hia hib => ?_, fun hia hfb => ?_, fun hfa hib => ?_, fun hfa hfb => ?_⟩
  · exact answersWide_of_value rfl (qaddValue_of_inf_inf ha hb hia hib) s
  · exact answersWide_of_value rfl (qaddValue_of_inf_finite ha hb hia hfb) s
  · exact answersWide_of_value rfl (qaddValue_of_finite_inf ha hb hfa hib) s
  · exact answersWide_of_value rfl ((qaddValue_of_finite ha hb hfa hfb).trans (addFinite_eq a b)) s

/-- Settles O45: the cases of QADD with the sign of the second operand flipped, which negates its value. -/
theorem quadDifferenceIsRoundedOnce : Obligations.QuadDifferenceIsRoundedOnce := by
  intro a b s ha hb
  obtain ⟨-, -, hmsb⟩ := flipSign_fields b
  have hb' : ¬nanBits (flipSign b) := mt (nanBits_flipSign b).1 hb
  refine ⟨fun hia hib => ?_, fun hia hfb => ?_, fun hfa hib => ?_, fun hfa hfb => ?_⟩
  all_goals refine answersWide_of_value rfl ((qsubValue_eq ha hb).trans ?_) s
  · rw [qaddValue_of_inf_inf ha hb' hia ((infBits_flipSign b).2 hib), hmsb]
    cases a.msb <;> cases b.msb <;> rfl
  · exact qaddValue_of_inf_finite ha hb' hia ((finiteBits_flipSign b).2 hfb)
  · have hinf := (infBits_flipSign b).2 hib
    rw [qaddValue_of_finite_inf ha hb' hfa hinf, ← hmsb]
    exact eq_signedInf hinf
  · rw [qaddValue_of_finite ha hb' hfa ((finiteBits_flipSign b).2 hfb), addFinite_eq, valueQ_flipSign, hmsb, ← sub_eq_add_neg]

/-- Settles O46: the cases of `qmulValue`. -/
theorem quadProductIsRoundedOnce : Obligations.QuadProductIsRoundedOnce := by
  intro a b s ha hb
  refine ⟨fun h => ?_, fun h => ?_, fun hfa hfb => ?_⟩
  · exact answersWide_of_value rfl (qmulValue_of_inf_zero ha hb h) s
  · exact answersWide_of_value rfl (qmulValue_of_inf_nonzero ha hb h) s
  · exact answersWide_of_value rfl (qmulValue_of_finite ha hb hfa hfb) s

/-- Settles O47: the cases of `qdivValue`. -/
theorem quadQuotientIsRoundedOnce : Obligations.QuadQuotientIsRoundedOnce := by
  intro a b s ha hb
  refine ⟨fun h => ?_, fun h => ?_, fun h => ?_, fun hfa hfb hza hzb => ?_⟩
  · exact answersWide_of_value rfl (qdivValue_of_invalid ha hb h) s
  · exact answersWide_of_value rfl (qdivValue_of_infinite ha hb h) s
  · exact answersWide_of_value rfl (qdivValue_of_zero ha hb h) s
  · exact answersWide_of_value rfl (qdivValue_of_finite ha hb hfa hfb hza hzb) s

/-! ### NaN results (R189) -/

/-- R156: a rounding packs its sign and a body that is at most that of the infinity. -/
theorem Format.exists_round_eq_pack (F : Format) (s : Bool) (v : ℚ) : ∃ b, b ≤ F.expOnes * 2 ^ F.T ∧ F.round s v = F.pack s b := by
  rcases eq_or_ne v 0 with rfl | hv
  · exact ⟨0, Nat.zero_le _, if_pos rfl⟩
  · exact ⟨_, min_le_right _ _, F.round_of_ne_zero s hv⟩

theorem Format.pack_lt (F : Format) (s : Bool) {b : Nat} (hb : b < 2 ^ (F.W + F.T)) : F.pack s b < 2 ^ F.width := by
  have hwidth : F.width = F.W + F.T + 1 := rfl
  rw [hwidth, pow_succ]
  cases s <;> simp [Format.pack] <;> omega

/-- A body with exponent field all ones that is at most that of the infinity is that of the infinity. -/
theorem Format.fraction_pack_of_ones {F : Format} (s : Bool) {b : Nat} (hb : b ≤ F.expOnes * 2 ^ F.T)
    (hexp : F.exponent (F.pack s b) = F.expOnes) : F.fraction (F.pack s b) = 0 := by
  have hbody := F.body_pack s (hb.trans_lt F.expOnes_mul_lt)
  rw [← F.body_div, hbody] at hexp
  rw [← F.body_mod, hbody]
  have hle : F.expOnes * 2 ^ F.T ≤ b := hexp ▸ Nat.div_mul_le_self b _
  rw [le_antisymm hb hle, Nat.mul_mod_left]

/-- R189: a rounding is no NaN. -/
theorem not_nanBits_roundQ (s : Bool) (v : ℚ) : ¬nanBits (roundQ s v) := by
  obtain ⟨b, hb, hround⟩ := formatQ.exists_round_eq_pack s v
  have hlt : formatQ.pack s b < 2 ^ 128 := formatQ.pack_lt s (hb.trans_lt formatQ.expOnes_mul_lt)
  rw [← isNaN_iff_nanBits, isNaN, classQ, decide_eq_true_iff, Format.classify_eq_nan_iff (by decide), roundQ, hround,
    BitVec.toNat_ofNat, Nat.mod_eq_of_lt hlt]
  exact fun ⟨hexp, hfraction⟩ => hfraction (Format.fraction_pack_of_ones s hb hexp)

theorem not_nanBits_signedZero (s : Bool) : ¬nanBits (signedZero s) := by cases s <;> decide
theorem not_nanBits_signedInf (s : Bool) : ¬nanBits (signedInf s) := by cases s <;> decide
theorem nanBits_defaultNaN : nanBits defaultNaN := by decide

theorem not_nanBits_addFinite (a b : Quad) : ¬nanBits (addFinite a b) := by
  rw [addFinite_eq]
  split
  · exact not_nanBits_signedZero _
  · exact not_nanBits_roundQ _ _

/-- R160: a quieted NaN is a NaN. -/
theorem nanBits_withQuietBit {x : Quad} (h : nanBits x) : nanBits (withQuietBit x) := by
  refine ⟨?_, fun hzero => ?_⟩
  · rw [withQuietBit, BitVec.extractLsb'_or, h.1, (by decide : (BitVec.ofNat 128 (2 ^ 111)).extractLsb' 112 15 = 0#15), BitVec.or_zero]
  · have hbit : ((withQuietBit x).extractLsb' 0 112).getLsbD 111 = true := by
      rw [withQuietBit, BitVec.extractLsb'_or, BitVec.getLsbD_or,
        (by decide : ((BitVec.ofNat 128 (2 ^ 111)).extractLsb' 0 112).getLsbD 111 = true), Bool.or_true]
    rw [hzero] at hbit
    exact absurd hbit (by decide)

section
variable {a b : Quad} (ha : ¬nanBits a) (hb : ¬nanBits b)
include ha hb

theorem nanBits_qaddValue_iff : nanBits (qaddValue a b) ↔ infBits a ∧ infBits b ∧ a.msb ≠ b.msb := by
  obtain hia | hfa := infBits_or_finiteBits ha
  · obtain hib | hfb := infBits_or_finiteBits hb
    · rw [qaddValue_of_inf_inf ha hb hia hib]
      split
      next h => simp [ha, h]
      next h => exact iff_of_true nanBits_defaultNaN ⟨hia, hib, h⟩
    · rw [qaddValue_of_inf_finite ha hb hia hfb]
      exact iff_of_false ha fun h => hfb h.2.1.1
  · obtain hib | hfb := infBits_or_finiteBits hb
    · rw [qaddValue_of_finite_inf ha hb hfa hib]
      exact iff_of_false hb fun h => hfa h.1.1
    · rw [qaddValue_of_finite ha hb hfa hfb]
      exact iff_of_false (not_nanBits_addFinite a b) fun h => hfa h.1.1

theorem nanBits_qsubValue_iff : nanBits (qsubValue a b) ↔ infBits a ∧ infBits b ∧ a.msb = b.msb := by
  obtain ⟨-, -, hmsb⟩ := flipSign_fields b
  rw [qsubValue_eq ha hb, nanBits_qaddValue_iff ha (mt (nanBits_flipSign b).1 hb), infBits_flipSign, hmsb, Bool.ne_not]

theorem nanBits_qmulValue_iff : nanBits (qmulValue a b) ↔ (zeroBits a ∧ infBits b) ∨ (infBits a ∧ zeroBits b) := by
  by_cases hinvalid : (infBits a ∧ zeroBits b) ∨ (zeroBits a ∧ infBits b)
  · rw [qmulValue_of_inf_zero ha hb hinvalid]
    exact iff_of_true nanBits_defaultNaN hinvalid.symm
  refine iff_of_false ?_ (mt Or.symm hinvalid)
  by_cases hinf : (infBits a ∧ ¬zeroBits b) ∨ (¬zeroBits a ∧ infBits b)
  · rw [qmulValue_of_inf_nonzero ha hb hinf]
    exact not_nanBits_signedInf _
  · have hfa : finiteBits a := (infBits_or_finiteBits ha).resolve_left fun hia =>
      (em (zeroBits b)).elim (fun hz => hinvalid (.inl ⟨hia, hz⟩)) (fun hz => hinf (.inl ⟨hia, hz⟩))
    have hfb : finiteBits b := (infBits_or_finiteBits hb).resolve_left fun hib =>
      (em (zeroBits a)).elim (fun hz => hinvalid (.inr ⟨hz, hib⟩)) (fun hz => hinf (.inr ⟨hz, hib⟩))
    rw [qmulValue_of_finite ha hb hfa hfb]
    exact not_nanBits_roundQ _ _

theorem nanBits_qdivValue_iff : nanBits (qdivValue a b) ↔ (zeroBits a ∧ zeroBits b) ∨ (infBits a ∧ infBits b) := by
  by_cases hinvalid : (infBits a ∧ infBits b) ∨ (zeroBits a ∧ zeroBits b)
  · rw [qdivValue_of_invalid ha hb hinvalid]
    exact iff_of_true nanBits_defaultNaN hinvalid.symm
  refine iff_of_false ?_ (mt Or.symm hinvalid)
  obtain hia | hfa := infBits_or_finiteBits ha
  · obtain hib | hfb := infBits_or_finiteBits hb
    · exact absurd (.inl ⟨hia, hib⟩) hinvalid
    · rw [qdivValue_of_infinite ha hb (.inl ⟨hia, hfb⟩)]
      exact not_nanBits_signedInf _
  obtain hib | hfb := infBits_or_finiteBits hb
  · rw [qdivValue_of_zero ha hb (.inl ⟨hfa, hib⟩)]
    exact not_nanBits_signedZero _
  by_cases hza : zeroBits a
  · have hzb : ¬zeroBits b := fun hzb => hinvalid (.inr ⟨hza, hzb⟩)
    rw [qdivValue_of_zero ha hb (.inr ⟨hza, hfb, hzb⟩)]
    exact not_nanBits_signedZero _
  by_cases hzb : zeroBits b
  · rw [qdivValue_of_infinite ha hb (.inr ⟨hfa, hza, hzb⟩)]
    exact not_nanBits_signedInf _
  · rw [qdivValue_of_finite ha hb hfa hfb hza hzb]
    exact not_nanBits_roundQ _ _

end

/-- Settles O43: a NaN operand is propagated, quieted; otherwise each operation answers a NaN in its invalid cases only, since no rounding
is one. -/
theorem naNResultsAreExactlyTheInvalidOnes : Obligations.NaNResultsAreExactlyTheInvalidOnes := by
  intro a b
  refine ⟨qaddValue a b, qsubValue a b, qmulValue a b, qdivValue a b, patternOf_of_resultOf rfl, patternOf_of_resultOf rfl,
    patternOf_of_resultOf rfl, patternOf_of_resultOf rfl, fun h => ?_, fun ha hb =>
    ⟨nanBits_qaddValue_iff ha hb, nanBits_qsubValue_iff ha hb, nanBits_qmulValue_iff ha hb, nanBits_qdivValue_iff ha hb⟩⟩
  have hnan : (isNaN a || isNaN b) = true := (isNaN_or_isNaN_iff a b).2 h
  have hpropagated : nanBits (propagateNaN a b) := by
    by_cases ha : nanBits a
    · rw [propagateNaN_of_left ha]
      exact nanBits_withQuietBit ha
    · rw [propagateNaN_of_not_left ha]
      exact nanBits_withQuietBit (h.resolve_left ha)
  rw [qaddValue, qsubValue, qmulValue, qdivValue, if_pos hnan, if_pos hnan, if_pos hnan, if_pos hnan]
  exact ⟨hpropagated, hpropagated, hpropagated, hpropagated⟩

/-! ### Laws (R188) -/

/-- A finite quad is the rounding of its own magnitude. -/
theorem roundQ_abs_valueQ {x : Quad} (h : finiteBits x) : roundQ x.msb |valueQ x| = x := by
  have hexp : formatQ.exponent x.toNat ≠ formatQ.expOnes := fun hones => h ((exponent_eq_iff x 0x7FFF#15).1 hones)
  rw [roundQ, ← sign_formatQ, valueQ, Format.round_abs_value x.isLt hexp, BitVec.ofNat_toNat, BitVec.setWidth_eq]

/-- The quad 1. -/
def oneQ : Quad := 0x3FFF0000000000000000000000000000

theorem valueQ_oneQ : valueQ oneQ = 1 := by decide +kernel

section
variable {a b : Quad} (ha : ¬nanBits a) (hb : ¬nanBits b)
include ha

theorem qmulValue_one : qmulValue a oneQ = a := by
  have hone : finiteBits oneQ ∧ ¬zeroBits oneQ ∧ oneQ.msb = false := by decide
  obtain hia | hfa := infBits_or_finiteBits ha
  · rw [qmulValue_of_inf_nonzero ha (by decide) (.inl ⟨hia, hone.2.1⟩), hone.2.2, Bool.xor_false]
    exact (eq_signedInf hia).symm
  · rw [qmulValue_of_finite ha (by decide) hfa hone.1, hone.2.2, Bool.xor_false, valueQ_oneQ, mul_one]
    exact roundQ_abs_valueQ hfa

theorem qdivValue_one : qdivValue a oneQ = a := by
  have hone : finiteBits oneQ ∧ ¬zeroBits oneQ ∧ oneQ.msb = false := by decide
  obtain ⟨hfinite, hnonzero, hmsb⟩ := hone
  obtain hia | hfa := infBits_or_finiteBits ha
  · rw [qdivValue_of_infinite ha (by decide) (.inl ⟨hia, hfinite⟩), hmsb, Bool.xor_false]
    exact (eq_signedInf hia).symm
  by_cases hza : zeroBits a
  · rw [qdivValue_of_zero ha (by decide) (.inr ⟨hza, hfinite, hnonzero⟩), hmsb, Bool.xor_false]
    exact (eq_signedZero hza).symm
  · rw [qdivValue_of_finite ha (by decide) hfa hfinite hza hnonzero, hmsb, Bool.xor_false, valueQ_oneQ, abs_one, div_one]
    exact roundQ_abs_valueQ hfa

include hb

theorem qaddValue_comm : qaddValue a b = qaddValue b a := by
  obtain hia | hfa := infBits_or_finiteBits ha
  · obtain hib | hfb := infBits_or_finiteBits hb
    · rw [qaddValue_of_inf_inf ha hb hia hib, qaddValue_of_inf_inf hb ha hib hia]
      by_cases hmsb : a.msb = b.msb
      · rw [if_pos hmsb, if_pos hmsb.symm, eq_signedInf hia, hmsb]
        exact (eq_signedInf hib).symm
      · rw [if_neg hmsb, if_neg (Ne.symm hmsb)]
    · rw [qaddValue_of_inf_finite ha hb hia hfb, qaddValue_of_finite_inf hb ha hfb hia]
  · obtain hib | hfb := infBits_or_finiteBits hb
    · rw [qaddValue_of_finite_inf ha hb hfa hib, qaddValue_of_inf_finite hb ha hib hfa]
    · rw [qaddValue_of_finite ha hb hfa hfb, qaddValue_of_finite hb ha hfb hfa, addFinite_eq, addFinite_eq, add_comm, Bool.and_comm]

theorem qmulValue_comm : qmulValue a b = qmulValue b a := by
  simp only [qmulValue, isNaN_of_not_nanBits ha, isNaN_of_not_nanBits hb, signQ, Bool.xor_comm a.msb, Bool.or_comm (isInf a),
    Bool.or_comm (isZero a), Nat.mul_comm (unpackQ a).m, Int.add_comm (unpackQ a).q, Bool.or_self, Bool.false_eq_true, if_false]

end

/-- The quads 2^200, -2^200, 2^16383, 2 and 1/2. -/
def large : Quad := 0x40C70000000000000000000000000000
def minusLarge : Quad := 0xC0C70000000000000000000000000000
def greatestPower : Quad := 0x7FFE0000000000000000000000000000
def twoQ : Quad := 0x40000000000000000000000000000000
def halfQ : Quad := 0x3FFE0000000000000000000000000000

/-- R188: `1 + 2^200` absorbs the 1, and `2^16383 * 2` overflows; grouped the other way neither happens. -/
theorem not_associative :
    qaddValue (qaddValue oneQ large) minusLarge ≠ qaddValue oneQ (qaddValue large minusLarge) ∧
    qmulValue (qmulValue greatestPower twoQ) halfQ ≠ qmulValue greatestPower (qmulValue twoQ halfQ) := by
  decide +kernel

/-- Settles O48: the laws of the four values, a finite quad being the rounding of its own magnitude; associativity fails where a group is
absorbed or overflows. -/
theorem quadArithmeticLaws : Obligations.QuadArithmeticLaws := by
  have hadd (a b : Quad) : patternOf (.qadd a b) = some (qaddValue a b) := patternOf_of_resultOf rfl
  have hsub (a b : Quad) : patternOf (.qsub a b) = some (qsubValue a b) := patternOf_of_resultOf rfl
  have hmul (a b : Quad) : patternOf (.qmul a b) = some (qmulValue a b) := patternOf_of_resultOf rfl
  have hdiv (a b : Quad) : patternOf (.qdiv a b) = some (qdivValue a b) := patternOf_of_resultOf rfl
  refine ⟨fun a b ha hb => ?_, fun a ha => ?_, ?_, ?_⟩
  · rw [hadd, hadd, hmul, hmul, hsub, hadd]
    exact ⟨congrArg some (qaddValue_comm ha hb), congrArg some (qmulValue_comm ha hb), congrArg some (qsubValue_eq ha hb),
      (hmul a _).trans (congrArg some (qmulValue_one ha)), (hdiv a _).trans (congrArg some (qdivValue_one ha))⟩
  · rw [← propagateNaN_of_left ha 0x3FFF0000000000000000000000000000]
    have hnan := resultOf_of_nanOperand (b := 0x3FFF0000000000000000000000000000) (.inl ha)
    exact ⟨patternOf_of_resultOf (hnan _ (by simp)), patternOf_of_resultOf (hnan _ (by simp))⟩
  · refine ⟨oneQ, large, minusLarge, _, _, hadd _ _, hadd _ _, ?_⟩
    rw [hadd, hadd]
    exact mt Option.some.inj not_associative.1
  · refine ⟨greatestPower, twoQ, halfQ, _, _, hmul _ _, hmul _ _, ?_⟩
    rw [hmul, hmul]
    exact mt Option.some.inj not_associative.2

end Sys2Proof.Machine
end

section
/-! The quad multiplier and divider (44_quad_arith.md section 6, R191, R192). -/

namespace Sys2Proof.Machine

/-- R191: the partial products of a 64-bit split add up to the product. -/
theorem quadProduct_eq (m n : Nat) : quadProduct m n = m * n := by
  calc quadProduct m n = (2 ^ 64 * (m / 2 ^ 64) + m % 2 ^ 64) * (2 ^ 64 * (n / 2 ^ 64) + n % 2 ^ 64) := by
        unfold quadProduct
        ring
    _ = m * n := by rw [Nat.div_add_mod, Nat.div_add_mod]

/-- R192: the 116 steps divide, since the bits above the quotient are below the divisor. -/
theorem quadQuotient_eq {n d : Nat} (h : n / 2 ^ 116 < d) : quadQuotient n d = (n / d, n % d) := by
  rw [quadQuotient, restoringSteps_eq n 116 0 _ h, Nat.div_add_mod', Nat.zero_add]

/-- R192: the divider's quotient and remainder are those of R184. -/
theorem quadDivDatapath_eq {a b : Quad} (hza : ¬zeroBits a) (hzb : ¬zeroBits b) :
    quadDivDatapath a b = divFinite (a.msb.xor b.msb) a b := by
  obtain ⟨-, hma, -⟩ := normalise_spec (unpackQ_m_ne_zero hza) (unpackQ_m_lt a)
  obtain ⟨hmb, -, -⟩ := normalise_spec (unpackQ_m_ne_zero hzb) (unpackQ_m_lt b)
  have htop : (normalise (unpackQ a)).m * 2 ^ 115 / 2 ^ 116 < (normalise (unpackQ b)).m := by omega
  unfold quadDivDatapath divFinite
  dsimp only
  rw [quadQuotient_eq htop, Nat.mod_def, Nat.mul_comm (normalise (unpackQ b)).m]
  rfl

/-- Settles O36: the datapaths form the product and the quotient that the meanings round, and round them as they do. -/
theorem quadMultiplierAndDividerAgree : Obligations.QuadMultiplierAndDividerAgree := by
  intro a b hfa hfb
  have ha := not_nanBits_of_finiteBits hfa
  have hb := not_nanBits_of_finiteBits hfb
  constructor
  · have hdatapath : quadMulDatapath a b = qmulValue a b := by
      rw [qmulValue_of_finite ha hb hfa hfb, quadMulDatapath, quadProduct_eq, roundPackQ_mul]
      rfl
    rw [hdatapath]
    exact patternOf_of_resultOf rfl
  · intro hza hzb
    rw [quadDivDatapath_eq hza hzb, divFinite_eq _ hza hzb, ← qdivValue_of_finite ha hb hfa hfb hza hzb]
    exact patternOf_of_resultOf rfl

end Sys2Proof.Machine
end

section
/-! Quad comparisons (45_quad_compare.md): the integer keys of R211 are in the order of the values, since magnitudes grow with the bits
below the sign and the infinity's bits spell the next power of two. -/

namespace Sys2Proof.Machine

/-! ### Keys and ranks (R211) -/

/-- The magnitude of a key with the key's sign, in units of the least one. -/
def signedScaled (k : Int) : Int := if k < 0 then -(formatQ.scaled k.natAbs : Int) else formatQ.scaled k.natAbs

theorem signedScaled_strictMono : StrictMono signedScaled := by
  intro k l hkl
  have hmono {m n : Nat} (h : m < n) : (formatQ.scaled m : Int) < formatQ.scaled n := by
    exact_mod_cast formatQ.scaled_strictMono h
  unfold signedScaled
  split_ifs with hk hl hl
  · exact neg_lt_neg (hmono (by omega))
  · have hpos : (formatQ.scaled 0 : Int) < formatQ.scaled k.natAbs := hmono (by omega)
    rw [formatQ.scaled_zero] at hpos
    omega
  · omega
  · exact hmono (by omega)

theorem signedScaled_signedInt (s : Bool) (b : Nat) : signedScaled (signedInt s b) = signedInt s (formatQ.scaled b) := by
  rcases Nat.eq_zero_or_pos b with rfl | hb
  · cases s <;> simp [signedScaled, signedInt]
  · cases s <;> simp [signedScaled, signedInt, hb]

/-- R211: the key of a quad is its body with its sign. -/
theorem orderKey_eq (x : Quad) : orderKey x = signedInt x.msb (formatQ.body x.toNat) := by
  have hbody : (x.extractLsb' 0 127).toNat = formatQ.body x.toNat := by
    rw [BitVec.extractLsb'_toNat, Nat.shiftRight_zero]
    rfl
  rw [orderKey, hbody]
  rfl

/-- R165: the infinity's body, taken as a finite one, spells `2^(EMAX + 1)`. -/
theorem Format.scaled_infinity {F : Format} (hW : 2 ≤ F.W) :
    (F.scaled (F.expOnes * 2 ^ F.T) : ℚ) * F.least = (2 : ℚ) ^ (F.emax + 1) := by
  have hones := F.expOnes_eq hW
  obtain ⟨d, hd⟩ := Nat.exists_eq_add_of_le' (F.expOnes_pos hW)
  have hbody : F.expOnes * 2 ^ F.T = d * 2 ^ F.T + 2 ^ F.T := by rw [hd]; ring
  rw [hbody, F.scaled_add (fun _ => le_rfl) (by omega), Format.least]
  push_cast
  rw [← pow_add, ← zpow_natCast, ← zpow_add₀ two_ne_zero]
  congr 1
  push_cast
  omega

/-- R211: the rank of a quad is the signed magnitude of its key. -/
theorem rankQ_eq (x : Quad) : rankQ x = signedScaled (orderKey x) * formatQ.least := by
  rw [orderKey_eq, signedScaled_signedInt, cast_signedInt, mul_assoc]
  unfold rankQ
  split
  next hinf =>
    obtain ⟨hexp, hfraction⟩ := (isInf_iff_infBits x).1 hinf
    have hbody : formatQ.body x.toNat = formatQ.expOnes * 2 ^ formatQ.T := by
      rw [← Nat.div_add_mod' (formatQ.body x.toNat) (2 ^ formatQ.T), formatQ.body_div, formatQ.body_mod, exponent_formatQ,
        fraction_formatQ, hexp, hfraction]
      rfl
    have htop : (2 : ℚ) ^ (formatQ.emax + 1) = 2 ^ 16384 := zpow_natCast 2 16384
    rw [hbody, Format.scaled_infinity (by decide), htop]
    cases x.msb <;> simp [signFactor]
  next => rw [valueQ, formatQ.value_eq, sign_formatQ]

theorem rankQ_lt_iff (a b : Quad) : rankQ a < rankQ b ↔ orderKey a < orderKey b := by
  rw [rankQ_eq a, rankQ_eq b, mul_lt_mul_iff_left₀ formatQ.least_pos, Int.cast_lt, signedScaled_strictMono.lt_iff_lt]

theorem rankQ_eq_iff (a b : Quad) : rankQ a = rankQ b ↔ orderKey a = orderKey b := by
  rw [rankQ_eq a, rankQ_eq b, mul_left_inj' formatQ.least_pos.ne', Int.cast_inj, signedScaled_strictMono.injective.eq_iff]

theorem orderKey_of_zeroBits {x : Quad} (h : zeroBits x) : orderKey x = 0 := by
  rw [orderKey, h]
  cases x.msb <;> rfl

/-! ### Outcomes of the comparisons (R212) -/

/-- R210: ordered operands compare as their keys do; two zeros have the same key. -/
theorem orderQ_of_ordered {a b : Quad} (ha : ¬nanBits a) (hb : ¬nanBits b) :
    orderQ a b = if orderKey a < orderKey b then .less else if orderKey a = orderKey b then .equal else .greater := by
  have hnan : ¬(isNaN a || isNaN b) = true := fun h => ((isNaN_or_isNaN_iff a b).1 h).elim ha hb
  rw [orderQ, if_neg hnan]
  split
  next hzero =>
    rw [Bool.and_eq_true, isZero_iff_zeroBits, isZero_iff_zeroBits] at hzero
    rw [orderKey_of_zeroBits hzero.1, orderKey_of_zeroBits hzero.2]
    rfl
  next =>
    obtain h | h | h := lt_trichotomy (orderKey a) (orderKey b)
    · rw [if_pos h, if_pos h]
    · rw [if_neg h.not_lt, if_neg h.not_gt, if_neg h.not_lt, if_pos h]
    · rw [if_neg h.not_gt, if_pos h, if_neg h.not_gt, if_neg h.ne']

/-- R212: the code of ordered operands, in the form s32. -/
theorem compare_of_ordered {a b : Quad} (ha : ¬nanBits a) (hb : ¬nanBits b) (sentinel : Int) :
    resultS32 (compareCode a b sentinel) = .ok (threeWay a b) 0 := by
  rw [compareCode, orderQ_of_ordered ha hb, threeWay]
  simp only [rankQ_lt_iff, rankQ_eq_iff]
  split_ifs <;> rfl

/-- R212: with a NaN operand the code is the sentinel. -/
theorem compareCode_of_nan {a b : Quad} (h : nanBits a ∨ nanBits b) (sentinel : Int) : compareCode a b sentinel = sentinel := by
  rw [compareCode, orderQ, if_pos ((isNaN_or_isNaN_iff a b).2 h)]

/-- R222: a sentinel 1 in the form s32. -/
theorem compare_of_nan_one {a b : Quad} (h : nanBits a ∨ nanBits b) : resultS32 (compareCode a b 1) = .ok 1 0 :=
  congrArg resultS32 (compareCode_of_nan h 1)

/-- R222: a sentinel -1 in the form s32. -/
theorem compare_of_nan_minus_one {a b : Quad} (h : nanBits a ∨ nanBits b) : resultS32 (compareCode a b (-1)) = .ok (-1) 0 :=
  congrArg resultS32 (compareCode_of_nan h (-1))

/-- Settles O49: all seven are the code of their operands, which in order is that of the ranks (`compare_of_ordered`). -/
theorem comparisonsFollowTheOrderOfValues : Obligations.ComparisonsFollowTheOrderOfValues := by
  intro a b s ha hb i hi
  refine answersWord_of_resultOf ?_ s
  simp only [List.mem_cons, List.not_mem_nil, or_false] at hi
  obtain rfl | rfl | rfl | rfl | rfl | rfl | rfl := hi
  all_goals exact compare_of_ordered ha hb _

/-- Settles O50: all seven are the code of their operands, which is the sentinel. -/
theorem unorderedOperandsAnswerTheSentinel : Obligations.UnorderedOperandsAnswerTheSentinel := by
  intro a b s h
  constructor
  · intro i hi
    refine answersWord_of_resultOf ?_ s
    simp only [List.mem_cons, List.not_mem_nil, or_false] at hi
    obtain rfl | rfl | rfl | rfl | rfl := hi
    all_goals exact compare_of_nan_one h
  · intro i hi
    refine answersWord_of_resultOf ?_ s
    simp only [List.mem_cons, List.not_mem_nil, or_false] at hi
    obtain rfl | rfl := hi
    all_goals exact compare_of_nan_minus_one h

/-! ### The host's tests (R222, R223) -/

theorem scalarOf_of_resultOf {i : Instr} {w hi : Word} (h : resultOf i = .ok w hi) : scalarOf i = some w.toInt := by
  rw [scalarOf, h]

/-- Settles O52: with a NaN operand the six scalars are the sentinels, which fail every test; otherwise all six are the code of the order,
and the tests follow in each of its three cases. -/
theorem hostTestsAreTheOrderPredicates : Obligations.HostTestsAreTheOrderPredicates := by
  intro a b
  by_cases hnan : nanBits a ∨ nanBits b
  · have hunordered : ¬(¬nanBits a ∧ ¬nanBits b) := by rwa [← not_or, not_not]
    have hone := compare_of_nan_one hnan
    have hminus := compare_of_nan_minus_one hnan
    refine ⟨_, _, _, _, _, _, scalarOf_of_resultOf hone, scalarOf_of_resultOf hone, scalarOf_of_resultOf hminus,
      scalarOf_of_resultOf hminus, scalarOf_of_resultOf hone, scalarOf_of_resultOf hone, ?_⟩
    simp only [← and_assoc, hunordered, false_and]
    decide
  · obtain ⟨ha, hb⟩ := not_or.1 hnan
    have hcode (sentinel : Int) := compare_of_ordered ha hb sentinel
    refine ⟨_, _, _, _, _, _, scalarOf_of_resultOf (hcode _), scalarOf_of_resultOf (hcode _), scalarOf_of_resultOf (hcode _),
      scalarOf_of_resultOf (hcode _), scalarOf_of_resultOf (hcode _), scalarOf_of_resultOf (hcode _), ?_⟩
    unfold threeWay
    obtain h | h | h := lt_trichotomy (rankQ a) (rankQ b)
    · simp [ha, hb, h, h.ne, h.not_gt]
    · simp [ha, hb, h]
    · simp [ha, hb, h, h.ne', h.not_gt]

end Sys2Proof.Machine
end

section
/-! Quad conversions (46_quad_convert.md): extending and truncating on the magnitudes of bodies, and the conversions to integers. -/

namespace Sys2Proof.Machine

/-! ### Conversions to integers (R237 to R241) -/

/-- R237: a finite quad that truncates into the range of a conversion is placed by its result form. -/
theorem convertTo_of_in_range {a : Quad} (ha : finiteBits a) {lo hi : Int} (hlo : lo ≤ towardZero (valueQ a))
    (hhi : towardZero (valueQ a) ≤ hi) (place : Int → Result) : convertTo a lo hi place = place (towardZero (valueQ a)) := by
  have hfinite : ¬(isNaN a || isInf a) = true := mt (isNaN_or_isInf_iff_not_finiteBits a).1 (not_not.2 ha)
  have hin : ¬(truncInt a < lo ∨ truncInt a > hi) := by
    rw [truncInt_eq_towardZero]
    omega
  rw [convertTo, toInt?, if_neg hfinite, if_neg hin, truncInt_eq_towardZero]

/-- R240: an integer in the range of the form u32 is itself as a word. -/
theorem resultU32_of_in_range {t : Int} (h0 : 0 ≤ t) (h1 : t ≤ 2 ^ 32 - 1) : resultU32 t = .ok (BitVec.ofInt 64 t) 0 := by
  obtain ⟨n, rfl⟩ := Int.eq_ofNat_of_zero_le h0
  have hn : n < 2 ^ 32 := by omega
  rw [resultU32, BitVec.ofInt_natCast, BitVec.ofInt_natCast]
  congr 1
  apply BitVec.eq_of_toNat_eq
  rw [BitVec.zeroExtend_eq_setWidth, BitVec.toNat_setWidth, BitVec.toNat_ofNat, BitVec.toNat_ofNat, Nat.mod_eq_of_lt hn]

/-- R68: the answer of an operation whose outcome is rewritten to a word. -/
theorem answersWord_of_outcome {i : Instr} {r : Result} {w : Word} {s : State} (hi : resultOf i = r) (h : r = .ok w 0) :
    AnswersWord i s w := answersWord_of_resultOf (hi.trans h) s

/-- Settles O56: each conversion is `convertTo` over its range and places the truncated value (`convertTo_of_in_range`). -/
theorem conversionTruncatesTowardZero : Obligations.ConversionTruncatesTowardZero := by
  intro a s ha
  refine ⟨fun hlo hhi => ?_, fun hlo hhi => ?_, fun hlo hhi => ?_, fun hlo hhi => ?_⟩
  · exact answersWord_of_outcome rfl (convertTo_of_in_range ha hlo hhi resultS32)
  · exact answersWord_of_outcome rfl (convertTo_of_in_range ha hlo hhi resultI64)
  · exact answersWord_of_outcome rfl ((convertTo_of_in_range ha hlo hhi resultU32).trans (resultU32_of_in_range hlo hhi))
  · exact answersWord_of_outcome rfl (convertTo_of_in_range ha hlo hhi resultI64)

/-! ### Patterns from fields (R150, R152) -/

section
variable (F : Format) (s : Bool) {e f : Nat}

theorem Format.ofFields_body_lt (he : e < 2 ^ F.W) (hf : f < 2 ^ F.T) : e * 2 ^ F.T + f < 2 ^ (F.W + F.T) := by
  rw [pow_add]
  calc e * 2 ^ F.T + f < e * 2 ^ F.T + 2 ^ F.T := by omega
    _ = (e + 1) * 2 ^ F.T := by ring
    _ ≤ 2 ^ F.W * 2 ^ F.T := Nat.mul_le_mul_right _ he

/-- The fields of a pattern made of fields. -/
theorem Format.fields_ofFields (he : e < 2 ^ F.W) (hf : f < 2 ^ F.T) :
    F.ofFields s e f < 2 ^ F.width ∧ F.sign (F.ofFields s e f) = s ∧ F.exponent (F.ofFields s e f) = e ∧
    F.fraction (F.ofFields s e f) = f := by
  have hlt := F.ofFields_body_lt he hf
  have hpos : 0 < 2 ^ F.T := by positivity
  refine ⟨F.pack_lt s hlt, F.sign_pack s hlt, ?_, ?_⟩
  · rw [← F.body_div, Format.ofFields, F.body_pack s hlt, Nat.add_comm, Nat.add_mul_div_right _ _ hpos, Nat.div_eq_of_lt hf,
      Nat.zero_add]
  · rw [← F.body_mod, Format.ofFields, F.body_pack s hlt, Nat.add_comm, Nat.add_mul_mod_self_right, Nat.mod_eq_of_lt hf]

end

theorem toNat_append_eq_add {m n : Nat} (x : BitVec m) (y : BitVec n) : (x ++ y).toNat = x.toNat * 2 ^ n + y.toNat := by
  rw [BitVec.toNat_append, Nat.shiftLeft_eq, Nat.mul_comm, ← Nat.two_pow_add_eq_or_of_lt y.isLt]

/-- R152: fields as numbers and as bits. -/
theorem ofNat_ofFields (s : Bool) {W T : Nat} (e : BitVec W) (f : BitVec T) :
    BitVec.ofNat (1 + W + T) ((⟨W, T⟩ : Format).ofFields s e.toNat f.toNat) = BitVec.ofBool s ++ e ++ f := by
  have hlt : (⟨W, T⟩ : Format).ofFields s e.toNat f.toNat < 2 ^ (1 + W + T) := by
    have := ((⟨W, T⟩ : Format).fields_ofFields s e.isLt f.isLt).1
    rwa [show (⟨W, T⟩ : Format).width = 1 + W + T by simp [Format.width, Format.P]; omega] at this
  apply BitVec.eq_of_toNat_eq
  rw [BitVec.toNat_ofNat, Nat.mod_eq_of_lt hlt, toNat_append_eq_add, toNat_append_eq_add, Format.ofFields, Format.pack, pow_add]
  cases s
  · simp
  · simp
    ring

/-- The sign bit as a field of one bit. -/
theorem ofBool_msb {w : Nat} (x : BitVec (w + 1)) : BitVec.ofBool x.msb = x.extractLsb' w 1 := by
  apply BitVec.eq_of_toNat_eq
  rw [BitVec.toNat_ofBool, BitVec.msb_eq_getLsbD_last, BitVec.getLsbD, Nat.toNat_testBit, BitVec.extractLsb'_toNat,
    Nat.shiftRight_eq_div_pow]
  rfl

/-! ### Truncation (R233) -/

theorem Format.truncate_of_finite (F : Format) {a : Quad} (h : finiteBits a) : F.truncate a = F.round a.msb |valueQ a| := by
  rw [Format.truncate, isNaN_of_not_nanBits (not_nanBits_of_finiteBits h), isInf_of_finiteBits h, abs_valueQ, ← F.roundPackInt_eq_round,
    unpackQ_s]
  rfl

theorem Format.truncate_of_inf (F : Format) {a : Quad} (h : infBits a) : F.truncate a = F.ofFields a.msb F.expOnes 0 := by
  have hnan : isNaN a = false := isNaN_of_not_nanBits fun hnan => hnan.2 h.2
  rw [Format.truncate, hnan, isInf_of_infBits h]
  rfl

theorem Format.truncate_of_nan (F : Format) {a : Quad} (h : nanBits a) :
    F.truncate a = F.ofFields a.msb F.expOnes (formatQ.fraction a.toNat / 2 ^ (112 - F.T) ||| 2 ^ (F.T - 1)) :=
  if_pos ((isNaN_iff_nanBits a).2 h)

/-- R160: the top of a quad's fraction, made quiet. -/
theorem truncated_fraction {k n : Nat} (hk : k + (1 + n) = 112) (a : Quad) :
    formatQ.fraction a.toNat / 2 ^ k ||| 2 ^ n = (a.extractLsb' k (1 + n) ||| 1#1 ++ 0#n).toNat := by
  have hpow : 2 ^ 112 = 2 ^ k * 2 ^ (1 + n) := by rw [← pow_add, hk]
  have hquiet : (1#1 ++ 0#n).toNat = 2 ^ n := by rw [toNat_append_eq_add, BitVec.toNat_zero]; simp
  have hfraction : formatQ.fraction a.toNat / 2 ^ k = a.toNat / 2 ^ k % 2 ^ (1 + n) := by
    rw [Format.fraction, show formatQ.T = 112 from rfl, hpow, Nat.mod_mul_right_div_self]
  rw [BitVec.toNat_or, hquiet, hfraction, BitVec.extractLsb'_toNat, Nat.shiftRight_eq_div_pow]

section
variable {a : Quad} (s : State)

/-- R234: TQD answers the truncated pattern. -/
theorem answersWord_tqd {d : Double} (h : BitVec.ofNat 64 (formatD.truncate a) = d) : AnswersWord (.tqd a) s d :=
  answersWord_of_outcome rfl (congrArg resultB64 h)

/-- R235: TQS answers the truncated pattern, zero-extended. -/
theorem answersWord_tqs {f : Single} (h : BitVec.ofNat 32 (formatS.truncate a) = f) : AnswersWord (.tqs a) s (f.zeroExtend 64) :=
  answersWord_of_outcome rfl (congrArg resultB32 h)

end

/-- Settles O54: the three cases of `Format.truncate`, whose fields are put side by side (`ofNat_ofFields`). -/
theorem truncateRoundsOnce : Obligations.TruncateRoundsOnce := by
  intro a s
  refine ⟨fun h => ⟨?_, ?_⟩, fun h => ⟨?_, ?_⟩, fun h => ⟨?_, ?_⟩⟩
  · exact answersWord_tqd s (congrArg (BitVec.ofNat 64) (formatD.truncate_of_finite h))
  · exact answersWord_tqs s (congrArg (BitVec.ofNat 32) (formatS.truncate_of_finite h))
  all_goals rw [← ofBool_msb a]
  · exact answersWord_tqd s ((congrArg (BitVec.ofNat 64) (formatD.truncate_of_inf h)).trans (ofNat_ofFields a.msb 0x7FF#11 0#52))
  · exact answersWord_tqs s ((congrArg (BitVec.ofNat 32) (formatS.truncate_of_inf h)).trans (ofNat_ofFields a.msb 0xFF#8 0#23))
  · have hfraction := truncated_fraction (k := 60) (n := 51) rfl a
    exact answersWord_tqd s ((congrArg (BitVec.ofNat 64) (formatD.truncate_of_nan h)).trans
      ((congrArg (fun f => BitVec.ofNat 64 (formatD.ofFields a.msb 0x7FF f)) hfraction).trans (ofNat_ofFields a.msb 0x7FF#11 _)))
  · have hfraction := truncated_fraction (k := 89) (n := 22) rfl a
    exact answersWord_tqs s ((congrArg (BitVec.ofNat 32) (formatS.truncate_of_nan h)).trans
      ((congrArg (fun f => BitVec.ofNat 32 (formatS.ofFields a.msb 0xFF f)) hfraction).trans (ofNat_ofFields a.msb 0xFF#8 _)))

end Sys2Proof.Machine
end

section
/-! Extension (46_quad_convert.md section 1, R230): a narrower format's bodies are bodies of quads of the same magnitude; truncating gives
them back (R236). -/

namespace Sys2Proof.Machine

/-- A format whose finite values are all values of normal quads or zero. -/
structure Format.Narrow (F : Format) : Prop where
  expBits : 2 ≤ F.W
  fractionBits : 1 ≤ F.T
  fraction_le : F.T ≤ 112
  range : F.bias + F.T ≤ 16383

theorem formatD_narrow : formatD.Narrow := ⟨by decide, by decide, by decide, by decide⟩
theorem formatS_narrow : formatS.Narrow := ⟨by decide, by decide, by decide, by decide⟩

/-! ### A significand with its leading bit, placed in a quad -/

section
variable {d N : Nat} (hlead : 2 ^ 112 ≤ N) (hcarry : N < 2 ^ 113)
include hlead hcarry

/-- R150: the leading bit is left out of the fraction and steps the exponent field. -/
theorem ofFields_leading (s : Bool) : formatQ.ofFields s (d + 1) (N % 2 ^ 112) = formatQ.pack s (d * 2 ^ 112 + N) := by
  have hbody : (d + 1) * 2 ^ 112 + N % 2 ^ 112 = d * 2 ^ 112 + N := by omega
  exact congrArg (formatQ.pack s) hbody

/-- R155: its magnitude. -/
theorem scaled_leading : (formatQ.scaled (d * 2 ^ 112 + N) : ℚ) * formatQ.least = N * (2 : ℚ) ^ (d - 16494 : Int) := by
  have hscaled : formatQ.scaled (d * 2 ^ 112 + N) = N * 2 ^ d := formatQ.scaled_add (fun _ => hlead) (hcarry.le.trans (by decide))
  have hleast : formatQ.least = (2 : ℚ) ^ (-16494 : Int) := rfl
  rw [hscaled, hleast, sub_eq_add_neg, zpow_add₀ two_ne_zero, zpow_natCast, Nat.cast_mul, Nat.cast_pow, Nat.cast_ofNat, mul_assoc]

end

/-- Bits set in the fraction leave the other fields alone. -/
theorem Format.or_fraction (F : Format) {x q : Nat} (hx : x < 2 ^ F.width) (hq : q < 2 ^ F.T) :
    x ||| q = F.ofFields (F.sign x) (F.exponent x) (F.fraction x ||| q) := by
  have hfraction : F.fraction x < 2 ^ F.T := F.fraction_lt x
  have hsplit : x = 2 ^ F.T * (x / 2 ^ F.T) + F.fraction x := (Nat.div_add_mod x _).symm
  have hfields : F.ofFields (F.sign x) (F.exponent x) (F.fraction x) = x := F.ofFields_sign_exponent_fraction hx
  have hmove : F.ofFields (F.sign x) (F.exponent x) (F.fraction x ||| q) = 2 ^ F.T * (x / 2 ^ F.T) + (F.fraction x ||| q) := by
    unfold Format.ofFields Format.pack at hfields ⊢
    omega
  rw [hmove, Nat.two_pow_add_eq_or_of_lt (Nat.or_lt_two_pow hfraction hq), ← Nat.or_assoc, ← Nat.two_pow_add_eq_or_of_lt hfraction,
    ← hsplit]

/-! ### Extension (R230) -/

section
variable {F : Format} (hF : F.Narrow)
include hF

theorem Format.Narrow.expOnes_ne_zero : F.expOnes ≠ 0 := (F.expOnes_pos hF.expBits).ne'

/-- R230: a pattern with exponent all ones keeps sign and left-aligned fraction. -/
theorem Format.Narrow.extend_of_ones {x : Nat} (h : F.exponent x = F.expOnes) :
    F.extend x = BitVec.ofNat 128 (formatQ.ofFields (F.sign x) 32767 (F.fraction x * 2 ^ (112 - F.T))) := by
  unfold Format.extend
  by_cases hfraction : F.fraction x = 0
  · rw [(F.classify_eq_infinity_iff hF.expOnes_ne_zero x).2 ⟨h, hfraction⟩, hfraction, Nat.zero_mul]
  · rw [(F.classify_eq_nan_iff hF.expOnes_ne_zero x).2 ⟨h, hfraction⟩]

theorem Format.Narrow.expOnes_eq_bias : (F.expOnes : Int) = 2 * F.bias + 1 := by
  rw [F.expOnes_eq hF.expBits, Format.emax, Format.emin]
  ring

/-- R230: a subnormal magnitude is normal in a quad. -/
theorem Format.Narrow.exists_extend_subnormal {x : Nat} (hexp : F.exponent x = 0) (hfraction : F.fraction x ≠ 0) :
    ∃ d N, 2 ^ 112 ≤ N ∧ N < 2 ^ 113 ∧ d < 32766 ∧
      F.extend x = BitVec.ofNat 128 (formatQ.ofFields (F.sign x) (d + 1) (N % 2 ^ 112)) ∧
      (N : ℚ) * (2 : ℚ) ^ (d - 16494 : Int) = F.scaled (F.body x) * F.least := by
  have hrange := hF.range
  have hT := hF.fraction_le
  have hf : F.fraction x < 2 ^ F.T := F.fraction_lt x
  obtain ⟨hlow, hhigh⟩ := bitlen_bounds hfraction
  have hL := Nat.pos_of_ne_zero (bitlen_ne_zero hfraction)
  have hLT : bitlen (F.fraction x) ≤ F.T := not_lt.1 (mt lt_bitlen_iff.1 hf.not_ge)
  have hbody : F.body x = F.fraction x := by
    rw [← Nat.div_add_mod' (F.body x) (2 ^ F.T), F.body_div, F.body_mod, hexp, Nat.zero_mul, Nat.zero_add]
  have hscaled : F.scaled (F.fraction x) = F.fraction x := by
    simpa using F.scaled_add (d := 0) (N := F.fraction x) (by simp) (by omega)
  have hemin : F.emin = 1 - F.bias := rfl
  set L := bitlen (F.fraction x)
  obtain ⟨d, hd⟩ : ∃ d : Nat, (16383 : Int) + ((L : Int) - 1) + (F.emin - F.T) = d + 1 :=
    ⟨(16383 + ((L : Int) - 1) + (F.emin - F.T) - 1).toNat, by omega⟩
  refine ⟨d, F.fraction x * 2 ^ (113 - L), ?_, ?_, ?_, ?_, ?_⟩
  · calc 2 ^ 112 = 2 ^ (L - 1) * 2 ^ (113 - L) := by rw [← pow_add]; congr 1; omega
      _ ≤ _ := Nat.mul_le_mul_right _ hlow
  · calc F.fraction x * 2 ^ (113 - L) < 2 ^ L * 2 ^ (113 - L) := Nat.mul_lt_mul_of_pos_right hhigh (by positivity)
      _ = 2 ^ 113 := by rw [← pow_add]; congr 1; omega
  · have hbias : 0 ≤ F.bias := by unfold Format.bias; have : (1 : Int) ≤ 2 ^ (F.W - 1) := one_le_pow₀ (by norm_num); omega
    omega
  · unfold Format.extend
    rw [(F.classify_eq_subnormal_iff x).2 ⟨hexp, hfraction⟩]
    dsimp only
    rw [hd]
    rfl
  · rw [hbody, hscaled, Format.least, hemin]
    push_cast
    rw [mul_assoc, ← zpow_natCast, ← zpow_add₀ two_ne_zero]
    congr 2
    push_cast [show L ≤ 113 by omega]
    omega

/-- R230: a normal magnitude is normal in a quad. -/
theorem Format.Narrow.exists_extend_normal {x : Nat} (hexp : F.exponent x ≠ 0) (hones : F.exponent x ≠ F.expOnes) :
    ∃ d N, 2 ^ 112 ≤ N ∧ N < 2 ^ 113 ∧ d < 32766 ∧
      F.extend x = BitVec.ofNat 128 (formatQ.ofFields (F.sign x) (d + 1) (N % 2 ^ 112)) ∧
      (N : ℚ) * (2 : ℚ) ^ (d - 16494 : Int) = F.scaled (F.body x) * F.least := by
  have hrange := hF.range
  have hT := hF.fraction_le
  have hf : F.fraction x < 2 ^ F.T := F.fraction_lt x
  have hpow : 2 ^ 112 = 2 ^ F.T * 2 ^ (112 - F.T) := by rw [← pow_add]; congr 1; omega
  have htop := hF.expOnes_eq_bias
  have hlt : F.exponent x < F.expOnes := by
    have := F.exponent_lt x
    unfold Format.expOnes at *
    omega
  obtain ⟨e, he⟩ := Nat.exists_eq_add_of_le' (Nat.pos_of_ne_zero hexp)
  have hbody : F.body x = e * 2 ^ F.T + (2 ^ F.T + F.fraction x) := by
    rw [← Nat.div_add_mod' (F.body x) (2 ^ F.T), F.body_div, F.body_mod, he]
    ring
  have hscaled : F.scaled (F.body x) = (2 ^ F.T + F.fraction x) * 2 ^ e := by
    rw [hbody, F.scaled_add (fun _ => Nat.le_add_right _ _) (by omega)]
  have hemin : F.emin = 1 - F.bias := rfl
  obtain ⟨d, hd⟩ : ∃ d : Nat, ((e + 1 : Nat) : Int) - F.bias + 16383 = d + 1 := ⟨(e - F.bias + 16383).toNat, by omega⟩
  have hdrop : (2 ^ F.T + F.fraction x) * 2 ^ (112 - F.T) = F.fraction x * 2 ^ (112 - F.T) + 2 ^ 112 := by rw [hpow]; ring
  have hkept : F.fraction x * 2 ^ (112 - F.T) < 2 ^ 112 := by
    rw [hpow]
    exact Nat.mul_lt_mul_of_pos_right hf (by positivity)
  refine ⟨d, (2 ^ F.T + F.fraction x) * 2 ^ (112 - F.T), by omega, by omega, by omega, ?_, ?_⟩
  · unfold Format.extend
    rw [(F.classify_eq_normal_iff x).2 ⟨hexp, hones⟩, hdrop, Nat.add_mod_right, Nat.mod_eq_of_lt hkept]
    dsimp only
    rw [he, hd]
    rfl
  · rw [hscaled, Format.least, hemin]
    push_cast
    rw [mul_assoc, mul_assoc, ← zpow_natCast (2 : ℚ) e, ← zpow_natCast (2 : ℚ) (112 - F.T), ← zpow_add₀ two_ne_zero,
      ← zpow_add₀ two_ne_zero]
    congr 2
    push_cast [hT]
    omega

/-- R230: a finite pattern becomes the finite quad of the same magnitude and sign. -/
theorem Format.Narrow.exists_extend {x : Nat} (h : F.exponent x ≠ F.expOnes) :
    ∃ b, b < 32767 * 2 ^ 112 ∧ F.extend x = BitVec.ofNat 128 (formatQ.pack (F.sign x) b) ∧
      formatQ.scaled b * formatQ.least = F.scaled (F.body x) * F.least := by
  have hplace : (∃ d N, 2 ^ 112 ≤ N ∧ N < 2 ^ 113 ∧ d < 32766 ∧
      F.extend x = BitVec.ofNat 128 (formatQ.ofFields (F.sign x) (d + 1) (N % 2 ^ 112)) ∧
      (N : ℚ) * (2 : ℚ) ^ (d - 16494 : Int) = F.scaled (F.body x) * F.least) →
      ∃ b, b < 32767 * 2 ^ 112 ∧ F.extend x = BitVec.ofNat 128 (formatQ.pack (F.sign x) b) ∧
        formatQ.scaled b * formatQ.least = F.scaled (F.body x) * F.least := by
    rintro ⟨d, N, hlead, hcarry, hd, hextend, hvalue⟩
    exact ⟨d * 2 ^ 112 + N, by omega, by rw [hextend, ofFields_leading hlead hcarry], by rw [scaled_leading hlead hcarry, hvalue]⟩
  by_cases hexp : F.exponent x = 0
  · by_cases hfraction : F.fraction x = 0
    · refine ⟨0, by positivity, ?_, ?_⟩
      · unfold Format.extend
        rw [(F.classify_eq_zero_iff x).2 ⟨hexp, hfraction⟩]
        rfl
      · rw [← Nat.div_add_mod' (F.body x) (2 ^ F.T), F.body_div, F.body_mod, hexp, hfraction]
        simp
    · exact hplace (hF.exists_extend_subnormal hexp hfraction)
  · exact hplace (hF.exists_extend_normal hexp h)

/-- R230: extension is exact on finite patterns. -/
theorem Format.Narrow.extend_finite {x : Nat} (h : F.exponent x ≠ F.expOnes) :
    finiteBits (F.extend x) ∧ valueQ (F.extend x) = F.value x ∧ (F.extend x).msb = F.sign x := by
  obtain ⟨b, hb, hextend, hvalue⟩ := hF.exists_extend h
  have hbody : b < 2 ^ (formatQ.W + formatQ.T) := hb.trans formatQ.expOnes_mul_lt
  have htoNat : (F.extend x).toNat = formatQ.pack (F.sign x) b := by
    rw [hextend, BitVec.toNat_ofNat]
    exact Nat.mod_eq_of_lt (formatQ.pack_lt _ hbody)
  refine ⟨fun hones => ?_, ?_, ?_⟩
  · have hexp := (exponent_eq_iff (F.extend x) 0x7FFF#15).2 hones
    rw [htoNat, ← formatQ.body_div, formatQ.body_pack _ hbody] at hexp
    exact ((Nat.div_lt_iff_lt_mul (by positivity)).2 hb).ne hexp
  · rw [valueQ, htoNat, formatQ.value_pack _ hbody, hvalue, F.value_eq]
  · rw [← sign_formatQ, htoNat, formatQ.sign_pack _ hbody]

/-- R230: the fields of an extended infinity or NaN. -/
theorem Format.Narrow.fields_extend {x : Nat} (h : F.exponent x = F.expOnes) :
    (F.extend x).msb = F.sign x ∧ (F.extend x).extractLsb' 112 15 = 0x7FFF#15 ∧
      formatQ.fraction (F.extend x).toNat = F.fraction x * 2 ^ (112 - F.T) := by
  have hfraction : F.fraction x * 2 ^ (112 - F.T) < 2 ^ formatQ.T :=
    calc F.fraction x * 2 ^ (112 - F.T) < 2 ^ F.T * 2 ^ (112 - F.T) := Nat.mul_lt_mul_of_pos_right (F.fraction_lt x) (by positivity)
      _ = 2 ^ 112 := by rw [← pow_add, Nat.add_sub_cancel' hF.fraction_le]
  obtain ⟨hlt, hsign, hexp, hfrac⟩ := formatQ.fields_ofFields (F.sign x) (e := 32767) (by decide) hfraction
  have htoNat : (F.extend x).toNat = formatQ.ofFields (F.sign x) 32767 (F.fraction x * 2 ^ (112 - F.T)) := by
    rw [hF.extend_of_ones h, BitVec.toNat_ofNat]
    exact Nat.mod_eq_of_lt hlt
  refine ⟨?_, (exponent_eq_iff _ 0x7FFF#15).1 ?_, ?_⟩
  · rw [← sign_formatQ, htoNat, hsign]
  · rw [htoNat, hexp]
    rfl
  · rw [htoNat, hfrac]

/-- R230: the bits of an extended infinity or NaN. -/
theorem Format.Narrow.extend_eq_append {x n k : Nat} (hn : F.T = n) (hk : n + k = 112) (h : F.exponent x = F.expOnes)
    (f : BitVec n) (hf : F.fraction x = f.toNat) :
    (F.extend x).toNat = (BitVec.ofBool (F.sign x) ++ 0x7FFF#15 ++ f ++ 0#k).toNat := by
  obtain ⟨hsign, hexp, hfraction⟩ := hF.fields_extend h
  have hones := (exponent_eq_iff _ 0x7FFF#15).2 hexp
  have hshift : 112 - F.T = k := by omega
  rw [← formatQ.ofFields_sign_exponent_fraction (F.extend x).isLt, sign_formatQ, hsign, hones, hfraction, hf, hshift, Format.ofFields,
    Format.pack, toNat_append_eq_add, toNat_append_eq_add, toNat_append_eq_add, BitVec.toNat_ofBool]
  have hpow : 2 ^ formatQ.T = 2 ^ n * 2 ^ k := by rw [← pow_add, hk]; rfl
  rw [pow_add, hpow, BitVec.toNat_zero]
  rw [show formatQ.W = 15 from rfl]
  ring

/-! ### Truncation undoes extension (R236) -/

/-- R236: finite patterns. -/
theorem Format.Narrow.truncate_extend_of_finite {x : Nat} (hx : x < 2 ^ F.width) (h : F.exponent x ≠ F.expOnes) :
    F.truncate (F.extend x) = x := by
  obtain ⟨hfinite, hvalue, hsign⟩ := hF.extend_finite h
  rw [F.truncate_of_finite hfinite, hvalue, hsign, Format.round_abs_value hx h]

/-- R236: infinities. -/
theorem Format.Narrow.truncate_extend_of_inf {x : Nat} (hx : x < 2 ^ F.width) (h : F.exponent x = F.expOnes) (hf : F.fraction x = 0) :
    F.truncate (F.extend x) = x := by
  obtain ⟨hsign, hexp, hfraction⟩ := hF.fields_extend h
  have hzero := (fraction_eq_zero_iff _).1 (hfraction.trans (by rw [hf, Nat.zero_mul]))
  rw [F.truncate_of_inf ⟨hexp, hzero⟩, hsign, ← h, ← hf, F.ofFields_sign_exponent_fraction hx]

/-- R236: NaNs come back quiet. -/
theorem Format.Narrow.truncate_extend_of_nan {x : Nat} (hx : x < 2 ^ F.width) (h : F.exponent x = F.expOnes) (hf : F.fraction x ≠ 0) :
    F.truncate (F.extend x) = x ||| 2 ^ (F.T - 1) := by
  obtain ⟨hsign, hexp, hfraction⟩ := hF.fields_extend h
  have hnan : nanBits (F.extend x) := by
    refine ⟨hexp, mt (fraction_eq_zero_iff _).2 ?_⟩
    rw [hfraction]
    positivity
  rw [F.truncate_of_nan hnan, hsign, hfraction, Nat.mul_div_cancel _ (by positivity), ← h, F.or_fraction hx]
  have := hF.fractionBits
  exact Nat.pow_lt_pow_right (by norm_num) (by omega)

end

end Sys2Proof.Machine
end

section
/-! Extension and truncation of the two narrower formats' patterns (46_quad_convert.md sections 1 and 2). -/

namespace Sys2Proof.Machine

/-! ### The fields of a pattern as bits -/

section
variable {w : Nat} (F : Format) (x : BitVec w)

theorem Format.exponent_toNat : F.exponent x.toNat = (x.extractLsb' F.T F.W).toNat := by
  rw [BitVec.extractLsb'_toNat, Nat.shiftRight_eq_div_pow]
  rfl

theorem Format.fraction_toNat : F.fraction x.toNat = (x.extractLsb' 0 F.T).toNat := by
  rw [BitVec.extractLsb'_toNat, Nat.shiftRight_zero]
  rfl

end

theorem formatD_sign_toNat (d : Double) : formatD.sign d.toNat = d.msb := d.msb_eq_getLsbD_last.symm

theorem formatS_sign_toNat (f : Single) : formatS.sign f.toNat = f.msb := f.msb_eq_getLsbD_last.symm

theorem formatD_exponent_eq_ones_iff (d : Double) : formatD.exponent d.toNat = formatD.expOnes ↔ d.extractLsb' 52 11 = 0x7FF#11 := by
  rw [formatD.exponent_toNat]
  exact BitVec.toNat_inj (y := 0x7FF#11)

theorem formatS_exponent_eq_ones_iff (f : Single) : formatS.exponent f.toNat = formatS.expOnes ↔ f.extractLsb' 23 8 = 0xFF#8 := by
  rw [formatS.exponent_toNat]
  exact BitVec.toNat_inj (y := 0xFF#8)

theorem formatD_fraction_eq_zero_iff (d : Double) : formatD.fraction d.toNat = 0 ↔ d.extractLsb' 0 52 = 0#52 := by
  rw [formatD.fraction_toNat]
  exact BitVec.toNat_inj (y := 0#52)

theorem formatS_fraction_eq_zero_iff (f : Single) : formatS.fraction f.toNat = 0 ↔ f.extractLsb' 0 23 = 0#23 := by
  rw [formatS.fraction_toNat]
  exact BitVec.toNat_inj (y := 0#23)

/-! ### Extension (R231, R232) -/

/-- Settles O53: a finite pattern goes to the finite quad of its value (`Format.Narrow.extend_finite`), any other keeps its bits
(`Format.Narrow.extend_eq_append`). -/
theorem extendIsExact : Obligations.ExtendIsExact := by
  refine fun s => ⟨fun d => ⟨fun h => ?_, fun h => ?_⟩, fun f => ⟨fun h => ?_, fun h => ?_⟩⟩
  · obtain ⟨hfinite, hvalue, hsign⟩ := formatD_narrow.extend_finite (mt (formatD_exponent_eq_ones_iff d).1 h)
    exact ⟨_, answersWide_of_resultOf rfl s, hfinite, hvalue, hsign.trans (formatD_sign_toNat d)⟩
  · have hbits := formatD_narrow.extend_eq_append (k := 60) rfl rfl ((formatD_exponent_eq_ones_iff d).2 h) _ (formatD.fraction_toNat d)
    rw [formatD_sign_toNat, ofBool_msb d] at hbits
    exact answersWide_of_value rfl (BitVec.eq_of_toNat_eq hbits) s
  · obtain ⟨hfinite, hvalue, hsign⟩ := formatS_narrow.extend_finite (mt (formatS_exponent_eq_ones_iff f).1 h)
    exact ⟨_, answersWide_of_resultOf rfl s, hfinite, hvalue, hsign.trans (formatS_sign_toNat f)⟩
  · have hbits := formatS_narrow.extend_eq_append (k := 89) rfl rfl ((formatS_exponent_eq_ones_iff f).2 h) _ (formatS.fraction_toNat f)
    rw [formatS_sign_toNat, ofBool_msb f] at hbits
    exact answersWide_of_value rfl (BitVec.eq_of_toNat_eq hbits) s

/-! ### Truncation after extension (R236) -/

section
variable {F : Format} (hF : F.Narrow) {x : Nat} (hx : x < 2 ^ F.width)
include hF hx

/-- R236: every pattern that is no NaN comes back. -/
theorem Format.Narrow.truncate_extend_of_not_nan (h : ¬(F.exponent x = F.expOnes ∧ F.fraction x ≠ 0)) :
    F.truncate (F.extend x) = x := by
  by_cases hones : F.exponent x = F.expOnes
  · exact hF.truncate_extend_of_inf hx hones (not_not.1 fun hf => h ⟨hones, hf⟩)
  · exact hF.truncate_extend_of_finite hx hones

end

/-- R234: the outcome of TQD from the truncated number. -/
theorem resultOf_tqd {q : Quad} {d : Double} (h : formatD.truncate q = d.toNat) : resultOf (.tqd q) = .ok d 0 :=
  congrArg resultB64 (by rw [h, BitVec.ofNat_toNat, BitVec.setWidth_eq])

/-- R235: the outcome of TQS from the truncated number. -/
theorem resultOf_tqs {q : Quad} {f : Single} (h : formatS.truncate q = f.toNat) : resultOf (.tqs q) = .ok (f.zeroExtend 64) 0 :=
  congrArg resultB32 (by rw [h, BitVec.ofNat_toNat, BitVec.setWidth_eq])

/-- Settles O55: truncation gives an extended pattern back (`Format.Narrow.truncate_extend_of_not_nan`) or sets its quiet bit
(`Format.Narrow.truncate_extend_of_nan`). -/
theorem truncateUndoesExtend : Obligations.TruncateUndoesExtend := by
  refine ⟨fun d => ⟨_, patternOf_of_resultOf rfl, fun h => ?_, fun hexp hfraction => ?_⟩,
    fun f => ⟨_, patternOf_of_resultOf rfl, fun h => ?_, fun hexp hfraction => ?_⟩⟩
  · rw [← formatD_exponent_eq_ones_iff, Ne, ← formatD_fraction_eq_zero_iff] at h
    exact resultOf_tqd (formatD_narrow.truncate_extend_of_not_nan d.isLt h)
  · rw [← formatD_exponent_eq_ones_iff] at hexp
    rw [Ne, ← formatD_fraction_eq_zero_iff] at hfraction
    refine resultOf_tqd ?_
    rw [formatD_narrow.truncate_extend_of_nan d.isLt hexp hfraction, BitVec.toNat_or]
    rfl
  · rw [← formatS_exponent_eq_ones_iff, Ne, ← formatS_fraction_eq_zero_iff] at h
    exact resultOf_tqs (formatS_narrow.truncate_extend_of_not_nan f.isLt h)
  · rw [← formatS_exponent_eq_ones_iff] at hexp
    rw [Ne, ← formatS_fraction_eq_zero_iff] at hfraction
    refine resultOf_tqs ?_
    rw [formatS_narrow.truncate_extend_of_nan f.isLt hexp hfraction, BitVec.toNat_or]
    rfl

end Sys2Proof.Machine
end

section
/-! The guard/round/sticky adder of R190: the aligned sum keeps enough bits below the significand (R158), and normalising, rounding by
three bits and packing is the rounding of R157. -/

namespace Sys2Proof.Machine

/-- A number with its lowest bit set. -/
theorem or_one_eq (n : Nat) : n ||| 1 = 2 * (n / 2) + 1 := by
  have hhalf : (n ||| 1) / 2 = n / 2 := by rw [Nat.or_div_two]; simp
  have hodd : (n ||| 1) % 2 = 1 := by simp
  omega

/-! ### Normalising, rounding and packing a sum -/

/-- R190: the adder after the sum, which is not zero. -/
def grsRound (s : Bool) (sum e : Nat) : Quad :=
  let n := grsNormalise 116 (if 2 ^ 116 ≤ sum then (sum / 2 ||| sum % 2, e + 1) else (sum, e))
  BitVec.ofNat 128 (formatQ.pack s (min ((n.2 - 1) * 2 ^ 112 + roundShift n.1 3) (32767 * 2 ^ 112)))

/-- A significand with its three extra bits that the last rounding step of R190 accepts. -/
structure GrsNormal (n e : Nat) : Prop where
  exponent_pos : 1 ≤ e
  lt : n < 2 ^ 116
  leading : 2 ^ 115 ≤ n ∨ e = 1

/-- R157, R190: on a normalised significand the three bits below it are those that the rounding drops. -/
theorem GrsNormal.roundPackInt_eq {n e : Nat} (h : GrsNormal n e) (h0 : n ≠ 0) (s : Bool) :
    formatQ.roundPackInt s n (e - 16498 : Int) = formatQ.pack s (min ((e - 1) * 2 ^ 112 + roundShift n 3) (32767 * 2 ^ 112)) := by
  obtain ⟨hexp, hlt, hleading⟩ := h
  have hbits : bitlen n ≤ 116 := not_lt.1 (mt lt_bitlen_iff.1 hlt.not_ge)
  have hlead : 115 < bitlen n ∨ e = 1 := hleading.imp_left lt_bitlen_iff.2
  have hemin : formatQ.emin = -16382 := by decide
  have hE : max ((e - 16498 : Int) + bitlen n - 1) formatQ.emin = e - 16383 := by omega
  have hT : (formatQ.T : Int) = 112 := rfl
  have hsh : (e : Int) - 16383 - formatQ.T - (e - 16498) = 3 := by omega
  have hfield : ((e : Int) - 16383 - formatQ.emin).toNat = e - 1 := by omega
  rw [Format.roundPackInt, if_neg h0]
  dsimp only
  rw [hE, hsh, Format.finish, hfield]
  rfl

/-- R190: left normalisation keeps the magnitude and ends normalised when it has steps enough. -/
theorem grsNormalise_spec (k : Nat) {n e : Nat} (hexp : 1 ≤ e) (hlt : n < 2 ^ 116) (hsteps : 2 ^ 115 ≤ n * 2 ^ k) :
    GrsNormal (grsNormalise k (n, e)).1 (grsNormalise k (n, e)).2 ∧
      (grsNormalise k (n, e)).1 * 2 ^ (grsNormalise k (n, e)).2 = n * 2 ^ e := by
  induction k generalizing n e with
  | zero =>
    rw [pow_zero, Nat.mul_one] at hsteps
    exact ⟨⟨hexp, hlt, .inl hsteps⟩, rfl⟩
  | succ k ih =>
    rw [grsNormalise]
    split
    next hstep =>
      obtain ⟨hsmall, he⟩ := hstep
      have hdouble : n * 2 ^ (k + 1) = 2 * n * 2 ^ k := by ring
      obtain ⟨hnormal, hvalue⟩ := ih (n := 2 * n) (e := e - 1) (by omega) (by omega) (hdouble ▸ hsteps)
      refine ⟨hnormal, hvalue.trans ?_⟩
      rw [← Nat.sub_add_cancel hexp, pow_succ, Nat.add_sub_cancel]
      ring
    next hstop => exact ⟨⟨hexp, hlt, by omega⟩, rfl⟩

/-- The unit of R190's sums, three bits below the significand's. -/
theorem mul_two_zpow_congr {m n e e' : Nat} (h : m * 2 ^ e = n * 2 ^ e') :
    (m : ℚ) * (2 : ℚ) ^ (e - 16498 : Int) = n * (2 : ℚ) ^ (e' - 16498 : Int) := by
  have hcast : (m : ℚ) * 2 ^ e = n * 2 ^ e' := by exact_mod_cast h
  rw [zpow_sub₀ two_ne_zero, zpow_sub₀ two_ne_zero, zpow_natCast, zpow_natCast, ← mul_div_assoc, ← mul_div_assoc, hcast]

/-- R190: a sum below `2^116` is normalised and rounded. -/
theorem round_grsNormalise (s : Bool) {n e : Nat} (h0 : n ≠ 0) (hexp : 1 ≤ e) (hlt : n < 2 ^ 116) :
    formatQ.pack s (min (((grsNormalise 116 (n, e)).2 - 1) * 2 ^ 112 + roundShift (grsNormalise 116 (n, e)).1 3) (32767 * 2 ^ 112)) =
      formatQ.round s (n * (2 : ℚ) ^ (e - 16498 : Int)) := by
  obtain ⟨hnormal, hvalue⟩ := grsNormalise_spec 116 hexp hlt (by omega)
  have hne : (grsNormalise 116 (n, e)).1 ≠ 0 := fun hzero => by
    rw [hzero, Nat.zero_mul] at hvalue
    have : 0 < n * 2 ^ e := by positivity
    omega
  rw [← hnormal.roundPackInt_eq hne, formatQ.roundPackInt_eq_round, mul_two_zpow_congr hvalue]

/-- R158: an odd number with bits enough stands for all magnitudes strictly between its neighbours. -/
theorem round_of_odd (s : Bool) {J : Nat} (hodd : J % 2 = 1) (hbits : 2 ^ 114 < J) {S : ℚ} (hS : |(J : ℚ) - S| < 1) (x : Int) :
    formatQ.round s (J * (2 : ℚ) ^ x) = formatQ.round s (S * (2 : ℚ) ^ x) := by
  obtain ⟨hlow, hhigh⟩ := abs_lt.1 hS
  obtain ⟨j, rfl⟩ : ∃ j, J = 2 * j + 1 := ⟨J / 2, by omega⟩
  push_cast at hlow hhigh
  have hhalve (r : ℚ) : (j + r) * (2 : ℚ) ^ (x + 1) = (2 * j + 2 * r) * (2 : ℚ) ^ x := by
    rw [zpow_add_one₀ two_ne_zero]
    ring
  have hround := formatQ.round_add_rest s (K := j) (show 2 ^ 113 ≤ j by omega) (t := 1 / 2) (u := S / 2 - j)
    (by norm_num) (by norm_num) (by linarith) (by linarith) (x + 1)
  rw [hhalve, hhalve] at hround
  convert hround using 3
  · push_cast
    ring
  · ring

/-- R190: a sum with a carry is shifted right by one, its lost bit kept as a sticky bit. -/
theorem round_carry (s : Bool) {sum e : Nat} (hcarry : 2 ^ 116 ≤ sum) :
    formatQ.round s ((sum / 2 ||| sum % 2 : Nat) * (2 : ℚ) ^ ((e + 1 : Nat) - 16498 : Int)) =
      formatQ.round s (sum * (2 : ℚ) ^ (e - 16498 : Int)) := by
  have hunit : (2 : ℚ) ^ (((e + 1 : Nat) : Int) - 16498) = 2 * (2 : ℚ) ^ (e - 16498 : Int) := by
    rw [← zpow_one_add₀ two_ne_zero]
    congr 1
    push_cast
    ring
  obtain ⟨h, rfl | rfl⟩ := Nat.even_or_odd' sum
  · have heven : (2 * h / 2 ||| 2 * h % 2) = h := by simp
    rw [heven, hunit]
    congr 1
    push_cast
    ring
  · have hhalf : (2 * h + 1) / 2 = h := by omega
    have hbit : (2 * h + 1) % 2 = 1 := by omega
    rw [hhalf, hbit, or_one_eq, round_of_odd s (S := ((2 * h + 1 : Nat) : ℚ) / 2) (by omega) (by omega), hunit]
    · congr 1
      ring
    · obtain ⟨k, rfl | rfl⟩ := Nat.even_or_odd' h
      · rw [Nat.mul_div_cancel_left _ two_pos, abs_lt]
        push_cast
        constructor <;> linarith
      · rw [show (2 * k + 1) / 2 = k by omega, abs_lt]
        push_cast
        constructor <;> linarith

/-- R190: after the sum the adder rounds it. -/
theorem grsRound_eq_roundQ (s : Bool) {sum e : Nat} (h0 : sum ≠ 0) (hexp : 1 ≤ e) (hlt : sum < 2 ^ 117) :
    grsRound s sum e = roundQ s (sum * (2 : ℚ) ^ (e - 16498 : Int)) := by
  unfold grsRound roundQ
  dsimp only
  congr 1
  split
  next hcarry =>
    have hshifted : (sum / 2 ||| sum % 2) < 2 ^ 116 := Nat.or_lt_two_pow (by omega) (by omega)
    have hne : (sum / 2 ||| sum % 2) ≠ 0 := by rw [Ne, Nat.or_eq_zero_iff]; omega
    rw [round_grsNormalise s hne (by omega) hshifted, round_carry s hcarry]
  next hsmall => exact round_grsNormalise s h0 hexp (by omega)

end Sys2Proof.Machine
end

section
/-! The guard/round/sticky adder of R190 on two finite quads: alignment loses bits only far below the larger operand. -/

namespace Sys2Proof.Machine

/-! ### Alignment -/

/-- R190: what is shifted out leaves a sticky bit, within a unit of the exact quotient. -/
theorem grsAlign_odd {m d : Nat} (hm : m < 2 ^ 116) (hlost : m % 2 ^ d ≠ 0) :
    grsAlign m d % 2 = 1 ∧ |(grsAlign m d : ℚ) - m / 2 ^ d| < 1 := by
  have hm0 : m ≠ 0 := fun h => hlost (by rw [h, Nat.zero_mod])
  have hpow : (0 : ℚ) < 2 ^ d := by positivity
  unfold grsAlign
  split
  next hfar =>
    have hle : m < 2 ^ d := hm.trans_le (Nat.pow_le_pow_right two_pos hfar)
    have hlt : (m / 2 ^ d : ℚ) < 1 := by rw [div_lt_one hpow]; exact_mod_cast hle
    have hpos : (0 : ℚ) < m / 2 ^ d := by positivity
    rw [abs_lt]
    refine ⟨rfl, ?_, ?_⟩ <;> push_cast <;> linarith
  next hnear =>
    rw [or_one_eq]
    have hsplit : (m : ℚ) = 2 ^ d * (m / 2 ^ d : Nat) + (m % 2 ^ d : Nat) := by exact_mod_cast (Nat.div_add_mod m (2 ^ d)).symm
    have hrest : (m / 2 ^ d : ℚ) = (m / 2 ^ d : Nat) + (m % 2 ^ d : Nat) / 2 ^ d := by
      conv_lhs => rw [hsplit]
      field_simp
    have hpos : (0 : ℚ) < (m % 2 ^ d : Nat) / 2 ^ d := by positivity
    have hlt : ((m % 2 ^ d : Nat) / 2 ^ d : ℚ) < 1 := by
      rw [div_lt_one hpow]
      exact_mod_cast Nat.mod_lt m (by positivity)
    refine ⟨by omega, ?_⟩
    rw [hrest, abs_lt]
    obtain ⟨k, hk | hk⟩ := Nat.even_or_odd' (m / 2 ^ d)
    · rw [hk, Nat.mul_div_cancel_left _ two_pos]
      push_cast
      constructor <;> linarith
    · rw [hk, show (2 * k + 1) / 2 = k by omega]
      push_cast
      constructor <;> linarith

/-- R190: without lost bits alignment is exact. -/
theorem grsAlign_exact {m d : Nat} (hm : m < 2 ^ 116) (hkept : m % 2 ^ d = 0) : (grsAlign m d : ℚ) = m / 2 ^ d := by
  unfold grsAlign
  split
  next hfar =>
    have hle : m < 2 ^ d := hm.trans_le (Nat.pow_le_pow_right two_pos hfar)
    have hm0 : m = 0 := by rwa [Nat.mod_eq_of_lt hle] at hkept
    simp [hm0]
  next hnear =>
    rw [if_neg (not_not.2 hkept), Nat.or_zero, Nat.cast_div (Nat.dvd_of_mod_eq_zero hkept) (by positivity)]
    push_cast
    rfl

/-! ### The aligned sum -/

/-- R190: a finite quad's exponent and significand. -/
structure GrsOperand (e m : Nat) : Prop where
  exponent_pos : 1 ≤ e
  lt : m < 2 ^ 113
  leading : e ≠ 1 → 2 ^ 112 ≤ m

/-- R190: the operand with the larger magnitude comes first. -/
structure GrsOrdered (ea ma eb mb : Nat) : Prop where
  larger : GrsOperand ea ma
  smaller : GrsOperand eb mb
  order : eb < ea ∨ (eb = ea ∧ mb ≤ ma)

/-- R190: the sum of the aligned significands. -/
def grsSum (same : Bool) (ea ma eb mb : Nat) : Nat :=
  if same then ma * 8 + grsAlign (mb * 8) (ea - eb) else ma * 8 - grsAlign (mb * 8) (ea - eb)

/-- R190: the sum that `grsSum` approximates. -/
def grsExactSum (same : Bool) (ea ma eb mb : Nat) : ℚ :=
  if same then (ma * 8 : Nat) + (mb * 8 : Nat) / 2 ^ (ea - eb) else (ma * 8 : Nat) - (mb * 8 : Nat) / 2 ^ (ea - eb)

section
variable {ea ma eb mb : Nat} (h : GrsOrdered ea ma eb mb)
include h

/-- The smaller operand is the smaller one. -/
theorem GrsOrdered.smaller_le : ((mb * 8 : Nat) / 2 ^ (ea - eb) : ℚ) ≤ (ma * 8 : Nat) := by
  obtain ⟨⟨hea, hma, hleading⟩, ⟨heb, hmb, -⟩, hlt | ⟨rfl, hle⟩⟩ := h
  · have := hleading (by omega)
    have htwo : 2 ≤ 2 ^ (ea - eb) := Nat.le_self_pow (by omega) 2
    rw [div_le_iff₀ (by positivity)]
    have hbound : mb * 8 ≤ ma * 8 * 2 ^ (ea - eb) := le_trans (by omega) (Nat.mul_le_mul_left (ma * 8) htwo)
    exact_mod_cast hbound
  · rw [Nat.sub_self, pow_zero, div_one]
    exact_mod_cast Nat.mul_le_mul_right 8 hle

/-- Bits are lost only to a shift by more than the three extra bits, so below a normal larger operand. -/
theorem GrsOrdered.of_lost (hlost : mb * 8 % 2 ^ (ea - eb) ≠ 0) :
    2 ^ 112 ≤ ma ∧ ((mb * 8 : Nat) / 2 ^ (ea - eb) : ℚ) < 2 ^ 112 := by
  have hd : 4 ≤ ea - eb := by
    by_contra hsmall
    have hdvd : 2 ^ (ea - eb) ∣ 2 ^ 3 := Nat.pow_dvd_pow 2 (by omega)
    exact hlost (Nat.mod_eq_zero_of_dvd (hdvd.mul_left mb))
  have hpow : 2 ^ 4 ≤ 2 ^ (ea - eb) := Nat.pow_le_pow_right two_pos hd
  refine ⟨h.larger.leading (by omega), ?_⟩
  rw [div_lt_iff₀ (by positivity)]
  have hmb := h.smaller.lt
  have hbound : mb * 8 < 2 ^ 112 * 2 ^ (ea - eb) := lt_of_lt_of_le (by omega) (Nat.mul_le_mul_left (2 ^ 112) hpow)
  exact_mod_cast hbound

theorem GrsOrdered.exactSum_nonneg (same : Bool) : 0 ≤ grsExactSum same ea ma eb mb := by
  unfold grsExactSum
  split
  · positivity
  · exact sub_nonneg.2 h.smaller_le

/-- The exact sum leaves room for the carry. -/
theorem GrsOrdered.exactSum_lt (same : Bool) : grsExactSum same ea ma eb mb < 2 ^ 117 - 1 := by
  have hma : ((ma * 8 : Nat) : ℚ) ≤ 2 ^ 116 - 8 := by
    have := h.larger.lt
    have : ma * 8 + 8 ≤ 2 ^ 116 := by omega
    have : ((ma * 8 : Nat) : ℚ) + 8 ≤ 2 ^ 116 := by exact_mod_cast this
    linarith
  have hsmaller := h.smaller_le
  have hpos : (0 : ℚ) ≤ (mb * 8 : Nat) / 2 ^ (ea - eb) := by positivity
  unfold grsExactSum
  split <;> linarith

/-- R158, R190: the sum is exact or an odd number close to the exact sum, with bits enough for the rounding. -/
theorem GrsOrdered.sum_exact_or_odd (same : Bool) :
    (grsSum same ea ma eb mb : ℚ) = grsExactSum same ea ma eb mb ∨
      (grsSum same ea ma eb mb % 2 = 1 ∧ 2 ^ 114 < grsSum same ea ma eb mb ∧
        |(grsSum same ea ma eb mb : ℚ) - grsExactSum same ea ma eb mb| < 1) := by
  have hsmaller := h.smaller_le
  have hmb := h.smaller.lt
  unfold grsSum grsExactSum
  by_cases hlost : mb * 8 % 2 ^ (ea - eb) = 0
  · have hexact := grsAlign_exact (by omega) hlost
    refine .inl ?_
    rw [← hexact] at hsmaller ⊢
    split
    · rw [Nat.cast_add]
    · rw [Nat.cast_sub (by exact_mod_cast hsmaller)]
  · obtain ⟨hma, hfar⟩ := h.of_lost hlost
    obtain ⟨hodd, hnear⟩ := grsAlign_odd (by omega) hlost
    have hsticky : grsAlign (mb * 8) (ea - eb) < 2 ^ 112 + 1 := by
      have : (grsAlign (mb * 8) (ea - eb) : ℚ) < 2 ^ 112 + 1 := by linarith [(abs_lt.1 hnear).2]
      exact_mod_cast this
    refine .inr ?_
    split
    · refine ⟨by omega, by omega, ?_⟩
      rwa [Nat.cast_add, add_sub_add_left_eq_sub]
    · refine ⟨by omega, by omega, ?_⟩
      rwa [Nat.cast_sub (by omega), sub_sub_sub_cancel_left, abs_sub_comm]

/-- R190: the adder answers the exact sum rounded once. -/
theorem GrsOrdered.grsAddOrdered_eq (sa sb : Bool) :
    grsAddOrdered sa sb ea ma eb mb = if grsExactSum (sa == sb) ea ma eb mb = 0 then zeroQ (sa && sb)
      else roundQ sa (grsExactSum (sa == sb) ea ma eb mb * (2 : ℚ) ^ (ea - 16498 : Int)) := by
  have hadder : grsAddOrdered sa sb ea ma eb mb = if grsSum (sa == sb) ea ma eb mb = 0 then zeroQ (sa && sb)
      else grsRound sa (grsSum (sa == sb) ea ma eb mb) ea := by
    simp only [grsSum, beq_iff_eq]
    rfl
  have hlt := h.exactSum_lt (sa == sb)
  rw [hadder]
  obtain hexact | ⟨hodd, hbits, hnear⟩ := h.sum_exact_or_odd (sa == sb)
  · have hzero : grsExactSum (sa == sb) ea ma eb mb = 0 ↔ grsSum (sa == sb) ea ma eb mb = 0 := by rw [← hexact, Nat.cast_eq_zero]
    have hroom : (grsSum (sa == sb) ea ma eb mb : ℚ) < 2 ^ 117 := by linarith
    simp only [hzero]
    split
    next => rfl
    next hne => rw [← hexact, grsRound_eq_roundQ sa hne h.larger.exponent_pos (by exact_mod_cast hroom)]
  · obtain ⟨hlow, hhigh⟩ := abs_lt.1 hnear
    have hbits' : (2 : ℚ) ^ 114 < grsSum (sa == sb) ea ma eb mb := by exact_mod_cast hbits
    have hroom : (grsSum (sa == sb) ea ma eb mb : ℚ) < 2 ^ 117 := by linarith
    have hne : grsExactSum (sa == sb) ea ma eb mb ≠ 0 := ne_of_gt (by linarith)
    rw [if_neg (by omega), if_neg hne, grsRound_eq_roundQ sa (by omega) h.larger.exponent_pos (by exact_mod_cast hroom)]
    exact congrArg (BitVec.ofNat 128) (round_of_odd sa hodd hbits hnear _)

end

/-! ### The operands (R190) -/

theorem grsUnpack_operand (x : Quad) : GrsOperand (grsUnpack x).1 (grsUnpack x).2 := by
  have hfraction : formatQ.fraction x.toNat < 2 ^ 112 := formatQ.fraction_lt x.toNat
  unfold grsUnpack
  dsimp only
  split
  · exact ⟨le_rfl, by dsimp only; omega, fun h => absurd rfl h⟩
  · exact ⟨by dsimp only; omega, by dsimp only; omega, fun _ => Nat.le_add_right _ _⟩

/-- R190: an operand's value is `m * 2^(E - 16495)` with its sign. -/
theorem valueQ_eq_grsUnpack (x : Quad) :
    valueQ x = signFactor x.msb * ((grsUnpack x).2 * (2 : ℚ) ^ ((grsUnpack x).1 - 16495 : Int)) := by
  have hemin : formatQ.emin - formatQ.T = (1 : Nat) - 16495 := by decide
  have hbias : formatQ.bias = 16383 := by decide
  have hT : (formatQ.T : Int) = 112 := rfl
  rw [valueQ_eq_unpackQ, unpackQ, Format.unpack, grsUnpack]
  split
  · rw [hemin]
  · rw [hbias, hT, sub_sub]
    rfl

theorem signFactor_not (s : Bool) : signFactor (!s) = -signFactor s := by cases s <;> simp [signFactor]

/-- R181, R190: the exact sum of two values in units of the larger one's last extra bit. -/
theorem signFactor_mul_grsExactSum (sa sb : Bool) {ea eb : Nat} (ma mb : Nat) (hle : eb ≤ ea) :
    signFactor sa * (grsExactSum (sa == sb) ea ma eb mb * (2 : ℚ) ^ (ea - 16498 : Int)) =
      signFactor sa * (ma * (2 : ℚ) ^ (ea - 16495 : Int)) + signFactor sb * (mb * (2 : ℚ) ^ (eb - 16495 : Int)) := by
  obtain ⟨d, rfl⟩ := Nat.exists_eq_add_of_le hle
  have hea : (2 : ℚ) ^ (((eb + d : Nat) : Int) - 16495) = 8 * (2 : ℚ) ^ (((eb + d : Nat) : Int) - 16498) := by
    rw [show (8 : ℚ) = (2 : ℚ) ^ (3 : Int) by norm_num, ← zpow_add₀ two_ne_zero]
    congr 1
    ring
  have heb : (2 : ℚ) ^ ((eb : Int) - 16495) = 8 / 2 ^ d * (2 : ℚ) ^ (((eb + d : Nat) : Int) - 16498) := by
    rw [show (8 : ℚ) = (2 : ℚ) ^ (3 : Int) by norm_num, ← zpow_natCast (2 : ℚ) d, ← zpow_sub₀ two_ne_zero,
      ← zpow_add₀ two_ne_zero]
    congr 1
    push_cast
    ring
  rw [hea, heb, grsExactSum, Nat.add_sub_cancel_left]
  generalize (2 : ℚ) ^ (((eb + d : Nat) : Int) - 16498) = unit
  obtain rfl | hdiffer := eq_or_ne sb sa
  · rw [beq_self_eq_true, if_pos rfl]
    push_cast
    ring
  · rw [beq_false_of_ne hdiffer.symm, if_neg Bool.false_ne_true, Bool.eq_not.2 hdiffer, signFactor_not]
    push_cast
    ring

/-- R190: on ordered operands the adder answers the exact sum of the values rounded once. -/
theorem grsAddOrdered_eq_addFinite (a b : Quad) (h : GrsOrdered (grsUnpack a).1 (grsUnpack a).2 (grsUnpack b).1 (grsUnpack b).2) :
    grsAddOrdered a.msb b.msb (grsUnpack a).1 (grsUnpack a).2 (grsUnpack b).1 (grsUnpack b).2 = addFinite a b := by
  have hle : (grsUnpack b).1 ≤ (grsUnpack a).1 := by
    obtain hlt | ⟨heq, -⟩ := h.order
    · exact hlt.le
    · exact heq.le
  have hnonneg := h.exactSum_nonneg (a.msb == b.msb)
  rw [addFinite_eq, h.grsAddOrdered_eq, valueQ_eq_grsUnpack a, valueQ_eq_grsUnpack b,
    ← signFactor_mul_grsExactSum a.msb b.msb _ _ hle, zeroQ_eq_signedZero]
  have hunit : (0 : ℚ) < (2 : ℚ) ^ ((grsUnpack a).1 - 16498 : Int) := by positivity
  generalize grsExactSum (a.msb == b.msb) (grsUnpack a).1 (grsUnpack a).2 (grsUnpack b).1 (grsUnpack b).2 = S at hnonneg ⊢
  generalize (2 : ℚ) ^ ((grsUnpack a).1 - 16498 : Int) = unit at hunit ⊢
  obtain rfl | hpos := hnonneg.eq_or_lt
  · simp
  · have hmul : 0 < S * unit := mul_pos hpos hunit
    have hsign : decide (signFactor a.msb * (S * unit) < 0) = a.msb := by
      cases a.msb
      · simpa [signFactor] using hmul.le
      · simpa [signFactor] using hmul
    have hne : signFactor a.msb * (S * unit) ≠ 0 := by
      rw [← abs_ne_zero, abs_mul, abs_signFactor, one_mul]
      exact (abs_pos.2 hmul.ne').ne'
    rw [if_neg hpos.ne', if_neg hne, hsign, abs_mul, abs_signFactor, one_mul, abs_of_pos hmul]

/-- R181: the exact sum rounded once does not depend on the order of the operands. -/
theorem addFinite_comm (a b : Quad) : addFinite a b = addFinite b a := by
  rw [addFinite_eq, addFinite_eq, add_comm, Bool.and_comm]

/-- R190: the adder is the exact sum rounded once. -/
theorem grsAdd_eq_addFinite (a b : Quad) : grsAdd a b = addFinite a b := by
  have ha := grsUnpack_operand a
  have hb := grsUnpack_operand b
  unfold grsAdd
  dsimp only
  split
  next horder => exact grsAddOrdered_eq_addFinite a b ⟨ha, hb, horder⟩
  next hswap => rw [addFinite_comm, ← grsAddOrdered_eq_addFinite b a ⟨hb, ha, by omega⟩]; rfl

/-- Settles O35: on finite operands QADD is the exact sum rounded once (`qaddValue_of_finite`), and so is the adder
(`grsAdd_eq_addFinite`). -/
theorem guardRoundStickyAdderAgrees : Obligations.GuardRoundStickyAdderAgrees := by
  intro a b ha hb
  rw [grsAdd_eq_addFinite, ← qaddValue_of_finite (not_nanBits_of_finiteBits ha) (not_nanBits_of_finiteBits hb) ha hb]
  exact patternOf_of_resultOf rfl

end Sys2Proof.Machine
end
